-- ==== Sys2Proof/Word.lean ====
section
/-! DEFINITION. The word, byte and index types of the core (00_scope.md R9, R14; 20_memory.md R50)
and the 4-tuple of words that states, round keys, blocks and the IV are made of. -/

namespace Sys2Proof

/-- A 64-bit unsigned word, `W = 64` (00_scope.md R9, R14). -/
abbrev Word := BitVec 64

/-- One byte of a block, a key or a digest (00_scope.md R16). -/
abbrev Byte := BitVec 8

/-- A register index of the host port, 8 bits (20_memory.md R50). It names a register, not a byte. -/
abbrev Index := BitVec 8

/-- A tuple of `NW = 4` words (00_scope.md R9): a state, a round key, a block or an IV. -/
structure Quad where
  w0 : Word
  w1 : Word
  w2 : Word
  w3 : Word
  deriving DecidableEq, Repr, Inhabited

/-- The all-zero tuple. -/
def Quad.zero : Quad := ⟨0, 0, 0, 0⟩

end Sys2Proof
end

