-- ==== Sys2Proof/Syntax.lean ====
section
/-! DEFINITION. The instructions of the core: the nine commands of 30_encoding.md R83, one constructor
per row of spec/opcode_table.json. No command word carries an operand (R85), so no constructor has an argument. -/

namespace Sys2Proof

/-- A command of the core (30_encoding.md R83). -/
inductive Instr where
  /-- Derive the 24 round keys from `KEY` (41_key_schedule.md R133). -/
  | keysetup
  /-- Make an IV present (42_block_engine.md R155). -/
  | ivset
  /-- Make the IV absent (42_block_engine.md R156). -/
  | ivclr
  /-- Encrypt one block, 24 rounds (42_block_engine.md R152). -/
  | enc
  /-- The decrypt-direction block operation, 24 rounds (42_block_engine.md R153). -/
  | dec
  /-- Adaptive encryption, 24 or 48 rounds (43_adaptive_mode.md R177). -/
  | enca
  /-- The extra-rounds decrypt-direction operation, 48 rounds (43_adaptive_mode.md R181). -/
  | decx
  /-- Single forward round (40_round_transform.md R110). -/
  | rnde
  /-- Single inverse-direction round (40_round_transform.md R111). -/
  | rndd
  deriving DecidableEq, Repr

end Sys2Proof
end

