-- ==== Sys2Proof/Decode.lean ====
section
/-! DEFINITION. The command format C (30_encoding.md R80 to R86, R89): the decoder, total on all 2^64
words and refusing an illegal word by name, the encoder, and the machine-readable table R89 as data. -/

namespace Sys2Proof

/-- Why a command word is illegal (30_encoding.md R84). Both raise the one error ILLCMD (60_exceptions.md R211). -/
inductive IllegalWord where
  /-- `v[63:8]` is not zero. -/
  | upperBitsSet
  /-- `v[63:8] = 0` and `v[7:0]` is no assigned opcode. -/
  | unassignedOpcode
  deriving DecidableEq, Repr

/-- Field `op`, bits 7:0 (30_encoding.md R80). -/
def opField (v : Word) : BitVec 8 := v.extractLsb' 0 8

/-- Field `zero`, bits 63:8 (30_encoding.md R80). -/
def zeroField (v : Word) : BitVec 56 := v.extractLsb' 8 56

/-- The opcode map (30_encoding.md R82, R83). -/
def decodeOp (op : BitVec 8) : Except IllegalWord Instr :=
  if op = 0x01 then .ok .keysetup
  else if op = 0x02 then .ok .ivset
  else if op = 0x03 then .ok .ivclr
  else if op = 0x10 then .ok .enc
  else if op = 0x11 then .ok .dec
  else if op = 0x12 then .ok .enca
  else if op = 0x13 then .ok .decx
  else if op = 0x20 then .ok .rnde
  else if op = 0x21 then .ok .rndd
  else .error .unassignedOpcode

/-- `perform`'s decoding of a word written to `CMD` (30_encoding.md R82). -/
def decode (v : Word) : Except IllegalWord Instr :=
  if zeroField v ≠ 0 then .error .upperBitsSet else decodeOp (opField v)

/-- The only word that selects a command (30_encoding.md R83). -/
def encode (i : Instr) : Word :=
  match i with
  | .keysetup => 0x0000000000000001
  | .ivset => 0x0000000000000002
  | .ivclr => 0x0000000000000003
  | .enc => 0x0000000000000010
  | .dec => 0x0000000000000011
  | .enca => 0x0000000000000012
  | .decx => 0x0000000000000013
  | .rnde => 0x0000000000000020
  | .rndd => 0x0000000000000021

/-- A row of opcode_table.json: the command, its match word and its mask (30_encoding.md R89). -/
structure OpcodeRow where
  instr : Instr
  matchWord : Word
  mask : Word
  deriving DecidableEq, Repr

/-- opcode_table.json, row by row: every bit of a command word is significant (30_encoding.md R89). -/
def opcodeTable : List OpcodeRow :=
  [⟨.keysetup, 0x0000000000000001, 0xFFFFFFFFFFFFFFFF⟩,
   ⟨.ivset, 0x0000000000000002, 0xFFFFFFFFFFFFFFFF⟩,
   ⟨.ivclr, 0x0000000000000003, 0xFFFFFFFFFFFFFFFF⟩,
   ⟨.enc, 0x0000000000000010, 0xFFFFFFFFFFFFFFFF⟩,
   ⟨.dec, 0x0000000000000011, 0xFFFFFFFFFFFFFFFF⟩,
   ⟨.enca, 0x0000000000000012, 0xFFFFFFFFFFFFFFFF⟩,
   ⟨.decx, 0x0000000000000013, 0xFFFFFFFFFFFFFFFF⟩,
   ⟨.rnde, 0x0000000000000020, 0xFFFFFFFFFFFFFFFF⟩,
   ⟨.rndd, 0x0000000000000021, 0xFFFFFFFFFFFFFFFF⟩]

/-- A word `v` selects a row exactly when `(v & mask) = match` (30_encoding.md R89). -/
def OpcodeRow.selects (r : OpcodeRow) (v : Word) : Bool := v &&& r.mask == r.matchWord

/-- A decoder's answer without its reason. -/
def decodeOption (v : Word) : Option Instr :=
  match decode v with
  | .ok i => some i
  | .error _ => none

/-- The host's reading of a table row's bits: `nbits` bits `w`, every bit above them 0, given to `decode`
as one 64-bit command word (there is one length and no byte order, 20_memory.md R57, 30_encoding.md R86).
Bits beyond 64 fit no command word. -/
def decodeTableWord (nbits w : Nat) : Option Instr :=
  if w % 2 ^ nbits < 2 ^ 64 then decodeOption (BitVec.ofNat 64 (w % 2 ^ nbits)) else none

end Sys2Proof
end

