-- ==== Sys2Proof/Config.lean ====
section
/-! DEFINITION. What is fixed for one instance of the core and is not state: the source's compile-time
constants (00_scope.md R9, R10), the widths this spec chose (R13), and the two OPEN parameters
`D` and `Hash` (R11, R12), which are constants without a body so that no proof can use a value of theirs. -/

namespace Sys2Proof.Config

/-- `ROUNDS`: rounds of the standard path and entries of the round-key file (00_scope.md R9). -/
def rounds : Nat := 24

/-- `XROUNDS = 2 * ROUNDS`: rounds of the extra-rounds path (00_scope.md R9). -/
def xrounds : Nat := 2 * rounds

/-- `BLOCK_BYTES` (00_scope.md R9). -/
def blockBytes : Nat := 32

/-- `KEY_BYTES` (00_scope.md R9). -/
def keyBytes : Nat := 64

/-- `DIGEST_BYTES` (00_scope.md R9). -/
def digestBytes : Nat := 64

/-- `FRAC`: fraction bits of the entropy threshold (00_scope.md R13, 10_state.md R30). -/
def frac : Nat := 16

/-- The threshold after reset, the nearest representable value to 0.7 (10_state.md R30, 00_scope.md R10). -/
def threshReset : Word := 0x000000000000B333

/-- What the hash adapter answers: exactly 64 bytes (00_scope.md R12, 41_key_schedule.md R131). -/
abbrev Digest := Vector Byte 64

/-- OPEN parameter `D`, the four diffusion constants (00_scope.md R11, decision D24; log entry 1).
Nothing may be assumed of them, so this constant has no body. -/
opaque D : Quad

/-- OPEN parameter `Hash`, the Hash PRF adapter: a total function of its input bytes alone with a
64-byte answer (00_scope.md R12, decision D24; log entry 2). It has no body. -/
opaque hash : List Byte → Digest

end Sys2Proof.Config
end

