-- ==== Sys2Proof/Machine/State.lean ====
section
/-! DEFINITION. The architectural state (10_state.md R20 to R38), the inputs that wait at the host port,
the reasons a step can stop, the error causes, and the state after reset (70_reset_and_hazards.md R231).
State is plain data. -/

namespace Sys2Proof.Machine

/-- One event at the core's inputs: a host port operation (20_memory.md R50) or the reset event, which is
an input of the core and neither a port operation nor a command (70_reset_and_hazards.md R230). -/
inductive PortEvent where
  /-- `HostRead(idx)` (20_memory.md R51). -/
  | read (idx : Index)
  /-- `HostWrite(idx, v)` (20_memory.md R52). -/
  | write (idx : Index) (v : Word)
  /-- `Reset` (70_reset_and_hazards.md R230). -/
  | reset
  deriving DecidableEq, Repr

/-- The four causes of an error (60_exceptions.md R202). -/
inductive ErrCause where
  /-- A write to `CMD` of an illegal word (60_exceptions.md R204). -/
  | illcmd
  /-- An access to an unmapped index (60_exceptions.md R205). -/
  | unmapped
  /-- A write to a read-only register (60_exceptions.md R206). -/
  | writeRo
  /-- A read of a write-only register (60_exceptions.md R207). -/
  | readWo
  deriving DecidableEq, Repr

/-- The state of the core (10_state.md R20: "and nothing else persists"), and beside it the model's own
two fields for the port: the events that have not been performed yet and the answer of the last one. -/
structure State where
  /-- `RK[r][w]`, the round-key file (10_state.md R27). -/
  rk : Vector Quad 24
  /-- `IV[w]`, the IV value (10_state.md R28). -/
  iv : Quad
  /-- `IVV`, an IV is present (10_state.md R28). -/
  ivv : Bool
  /-- `KEYED`, KEYSETUP has completed since reset (10_state.md R29). -/
  keyed : Bool
  /-- `KEY[i]`, the master key input buffer (10_state.md R25). -/
  key : Vector Word 8
  /-- `DIN[w]`, block input (10_state.md R22). -/
  din : Quad
  /-- `DOUT[w]`, block output (10_state.md R23). -/
  dout : Quad
  /-- `RKIN[w]`, operand round key of RNDE and RNDD (10_state.md R24). -/
  rkin : Quad
  /-- `THRESH`, entropy threshold, signed fixed point (10_state.md R30). -/
  thresh : Word
  /-- `XMODE`, the path the last ENCA took (10_state.md R33). -/
  xmode : Bool
  /-- `ERR`, sticky error flag (10_state.md R34). -/
  err : Bool
  /-- `ERRCODE`, cause of the first error since reset, 4 bits (10_state.md R34). -/
  errCode : BitVec 4
  /-- MODEL'S OWN (log entry 3): the events the outside world has presented, oldest first, none performed yet. -/
  pending : List PortEvent
  /-- MODEL'S OWN (log entry 4): the word the last performed event returned; none where it returned nothing. -/
  response : Option Word
  deriving DecidableEq, Repr

/-- Replace `RK` whole. -/
def State.setRk (s : State) (v : Vector Quad 24) : State := { s with rk := v }
/-- Replace `IV` and `IVV` together: no rule writes one without the other (10_state.md R28). -/
def State.setIv (s : State) (present : Bool) (v : Quad) : State := { s with ivv := present, iv := v }
/-- Replace `KEYED`. -/
def State.setKeyed (s : State) (v : Bool) : State := { s with keyed := v }
/-- Replace `KEY` whole. -/
def State.setKey (s : State) (v : Vector Word 8) : State := { s with key := v }
/-- Replace `DIN` whole. -/
def State.setDin (s : State) (v : Quad) : State := { s with din := v }
/-- Replace `DOUT` whole. -/
def State.setDout (s : State) (v : Quad) : State := { s with dout := v }
/-- Replace `RKIN` whole. -/
def State.setRkin (s : State) (v : Quad) : State := { s with rkin := v }
/-- Replace `THRESH`. -/
def State.setThresh (s : State) (v : Word) : State := { s with thresh := v }
/-- Replace `XMODE`. -/
def State.setXmode (s : State) (v : Bool) : State := { s with xmode := v }
/-- Replace `ERR` and `ERRCODE`. -/
def State.setErr (s : State) (e : Bool) (c : BitVec 4) : State := { s with err := e, errCode := c }
/-- Replace the waiting events. -/
def State.setPending (s : State) (es : List PortEvent) : State := { s with pending := es }
/-- Replace the answer of the port. -/
def State.setResponse (s : State) (r : Option Word) : State := { s with response := r }

/-- The state after reset (70_reset_and_hazards.md R231). The spec gives every register a reset value;
the two fields of the model's own are empty (log entries 3 and 4). -/
def State.reset : State where
  rk := Vector.replicate 24 Quad.zero
  iv := Quad.zero
  ivv := false
  keyed := false
  key := Vector.replicate 8 0
  din := Quad.zero
  dout := Quad.zero
  rkin := Quad.zero
  thresh := Config.threshReset
  xmode := false
  err := false
  errCode := 0
  pending := []
  response := none

/-- What stops the machine: nothing does. The four errors of 60_exceptions.md R202 are recorded in
`ERR`/`ERRCODE` and the core goes on (R203, R212, R213), so this type has no constructor and no one raises it
(DEDUCED, log entry 9). -/
inductive Fault where
  deriving DecidableEq, Repr

/-- Why an instruction has no meaning here. -/
inductive Refusal where
  /-- Raised by an arm of `exec` for a command without a meaning; no arm does so in this model. Safe. -/
  | notModelled (mnemonic : String)
  deriving DecidableEq, Repr

end Sys2Proof.Machine
end

