-- ==== Sys2Proof/Machine/Flags.lean ====
section
/-! DEFINITION. The flags: the cause codes of `ERRCODE` (60_exceptions.md R202), how an error sets `ERR` and
`ERRCODE` (R203), and the read-only view `STATUS` (10_state.md R32). There are no arithmetic condition
codes (40_round_transform.md R113). -/

namespace Sys2Proof.Machine

/-- The code of a cause (60_exceptions.md R202). -/
def causeCode (c : ErrCause) : BitVec 4 :=
  match c with
  | .illcmd => 1
  | .unmapped => 2
  | .writeRo => 3
  | .readWo => 4

/-- `ERRCODE` after an error: the first cause is kept (60_exceptions.md R203). -/
def latchedCode (c : ErrCause) (s : State) : BitVec 4 := if s.err then s.errCode else causeCode c

/-- The value of `STATUS` (10_state.md R32): bits 63:8 zero, 7:4 `ERRCODE`, 3 `ERR`, 2 `XMODE`, 1 `IVV`, 0 `KEYED`. -/
def statusWord (s : State) : Word :=
  (BitVec.ofBool s.keyed).setWidth 64 ||| (BitVec.ofBool s.ivv).setWidth 64 <<< 1 |||
    (BitVec.ofBool s.xmode).setWidth 64 <<< 2 ||| (BitVec.ofBool s.err).setWidth 64 <<< 3 |||
    s.errCode.setWidth 64 <<< 4

end Sys2Proof.Machine
end

