-- ==== Sys2Proof/Machine/Operands.lean ====
section
/-! DEFINITION. Operand assembly (30_encoding.md R85): the conversions between bytes and words (00_scope.md
R16, 20_memory.md R56), word-by-word operations on 4-tuples, and the fixed-point reading of `THRESH`
(10_state.md R30). There is no other operand form: no command word carries an operand. -/

namespace Sys2Proof.Machine

/-- `le64(n)`: eight bytes, least significant first (00_scope.md R16). -/
def le64 (n : Word) : List Byte := (List.range 8).map fun j => n.extractLsb' (8 * j) 8

/-- `word_le(b)`: the sum over `j` of `b[j] * 2^(8j)` (00_scope.md R16), by Horner's rule. -/
def wordLe : List Byte → Word
  | [] => 0
  | b :: bs => b.setWidth 64 + 256 * wordLe bs

/-- Word `w` of a byte string: `word_le(B[8w .. 8w+7])` (00_scope.md R16). -/
def wordAt (bytes : List Byte) (w : Nat) : Word := wordLe ((bytes.drop (8 * w)).take 8)

/-- `words4(B)`; of a 64-byte string, of its first 32 bytes (00_scope.md R16). -/
def words4 (bytes : List Byte) : Quad := ⟨wordAt bytes 0, wordAt bytes 1, wordAt bytes 2, wordAt bytes 3⟩

/-- `words8(B)` for a 64-byte string (00_scope.md R16). -/
def words8 (bytes : List Byte) : Vector Word 8 :=
  #v[wordAt bytes 0, wordAt bytes 1, wordAt bytes 2, wordAt bytes 3,
     wordAt bytes 4, wordAt bytes 5, wordAt bytes 6, wordAt bytes 7]

/-- `bytes32(s)` (00_scope.md R16). -/
def bytes32 (q : Quad) : List Byte := le64 q.w0 ++ le64 q.w1 ++ le64 q.w2 ++ le64 q.w3

/-- The 64 key bytes `le64(KEY[0]) || ... || le64(KEY[7])` (10_state.md R25, 41_key_schedule.md R133). -/
def keyBytesOf (key : Vector Word 8) : List Byte := key.toList.flatMap le64

/-- `sint64(v)`, the two's-complement reading of a word (00_scope.md R14). -/
def sint64 (v : Word) : Int := if v.toNat < 2 ^ 63 then v.toNat else v.toNat - 2 ^ 64

/-- Element `w` of a 4-tuple register. -/
def quadGet (q : Quad) (w : Fin 4) : Word :=
  match w with
  | 0 => q.w0
  | 1 => q.w1
  | 2 => q.w2
  | 3 => q.w3

/-- A 4-tuple register with element `w` replaced. -/
def quadSet (q : Quad) (w : Fin 4) (v : Word) : Quad :=
  match w with
  | 0 => { q with w0 := v }
  | 1 => { q with w1 := v }
  | 2 => { q with w2 := v }
  | 3 => { q with w3 := v }

/-- Exclusive OR word by word. -/
def quadXor (a b : Quad) : Quad := ⟨a.w0 ^^^ b.w0, a.w1 ^^^ b.w1, a.w2 ^^^ b.w2, a.w3 ^^^ b.w3⟩

/-- `add64` word by word (00_scope.md R15). -/
def quadAdd (a b : Quad) : Quad := ⟨a.w0 + b.w0, a.w1 + b.w1, a.w2 + b.w2, a.w3 + b.w3⟩

/-- `sub64` word by word (00_scope.md R15). -/
def quadSub (a b : Quad) : Quad := ⟨a.w0 - b.w0, a.w1 - b.w1, a.w2 - b.w2, a.w3 - b.w3⟩

end Sys2Proof.Machine
end

