-- ==== Sys2Proof/Machine/RegMap.lean ====
section
/-! DEFINITION. The register map (20_memory.md R50, R53, R54): 256 indices, 123 of them mapped. -/

namespace Sys2Proof.Machine

/-- A register of the map (20_memory.md R53). -/
inductive Reg where
  | cmd
  | status
  | thresh
  | key (i : Fin 8)
  | din (w : Fin 4)
  | dout (w : Fin 4)
  | rkin (w : Fin 4)
  | iv (w : Fin 4)
  | rk (r : Fin 24) (w : Fin 4)
  deriving DecidableEq, Repr

/-- The access column (20_memory.md R53). -/
inductive Access where
  /-- The host may read and write. -/
  | rw
  /-- Read only. -/
  | ro
  /-- Write only. -/
  | wo
  deriving DecidableEq, Repr

/-- The access rights of a register (20_memory.md R53). -/
def access (r : Reg) : Access :=
  match r with
  | .cmd => .wo
  | .status => .ro
  | .thresh => .rw
  | .key _ => .wo
  | .din _ => .rw
  | .dout _ => .ro
  | .rkin _ => .rw
  | .iv _ => .ro
  | .rk _ _ => .ro

/-- The register an index names; none for the unmapped indices `0x03..0x07` and `0x80..0xFF`
(20_memory.md R53, R54). -/
def regAt (idx : Index) : Option Reg :=
  let n := idx.toNat
  if n = 0x00 then some .cmd
  else if n = 0x01 then some .status
  else if n = 0x02 then some .thresh
  else if n < 0x08 then none
  else if n < 0x10 then some (.key (Fin.ofNat 8 (n - 0x08)))
  else if n < 0x14 then some (.din (Fin.ofNat 4 (n - 0x10)))
  else if n < 0x18 then some (.dout (Fin.ofNat 4 (n - 0x14)))
  else if n < 0x1C then some (.rkin (Fin.ofNat 4 (n - 0x18)))
  else if n < 0x20 then some (.iv (Fin.ofNat 4 (n - 0x1C)))
  else if n < 0x80 then some (.rk (Fin.ofNat 24 ((n - 0x20) / 4)) (Fin.ofNat 4 ((n - 0x20) % 4)))
  else none

/-- The index column (20_memory.md R53). -/
def regIndex (r : Reg) : Index :=
  match r with
  | .cmd => 0x00
  | .status => 0x01
  | .thresh => 0x02
  | .key i => BitVec.ofNat 8 (0x08 + i)
  | .din w => BitVec.ofNat 8 (0x10 + w)
  | .dout w => BitVec.ofNat 8 (0x14 + w)
  | .rkin w => BitVec.ofNat 8 (0x18 + w)
  | .iv w => BitVec.ofNat 8 (0x1C + w)
  | .rk r w => BitVec.ofNat 8 (0x20 + 4 * r + w)

end Sys2Proof.Machine
end

