-- ==== Sys2Proof/Machine/Ops.lean ====
section
/-! DEFINITION. The named operations over the registers: reading and writing one register, `HostRead`
(20_memory.md R51), and the error action `raise Error(code)`, which is all that taking an exception is on
this hardware (60_exceptions.md R203, R212). There is no return from it (R213). The core has no memory
(20_memory.md, its opening paragraph). -/

namespace Sys2Proof.Machine

/-- `raise Error(code)`: `ERRCODE` takes the code unless an earlier error holds it, `ERR` is set, and
nothing else changes (60_exceptions.md R203). It saves nothing, changes no mode and goes nowhere (R212). -/
def raiseError (c : ErrCause) (s : State) : State := s.setErr true (latchedCode c s)

/-- The value a register holds. `CMD` has no storage (10_state.md R35) and `STATUS` is a view (R32). -/
def readReg (r : Reg) (s : State) : Word :=
  match r with
  | .cmd => 0
  | .status => statusWord s
  | .thresh => s.thresh
  | .key i => s.key[i]
  | .din w => quadGet s.din w
  | .dout w => quadGet s.dout w
  | .rkin w => quadGet s.rkin w
  | .iv w => quadGet s.iv w
  | .rk r w => quadGet s.rk[r] w

/-- `register <- v`, all 64 bits, for a register the host may write (20_memory.md R52, 10_state.md R26).
The registers it may not write keep their value (60_exceptions.md R206) and `CMD` stores nothing (10_state.md R35). -/
def writeReg (r : Reg) (v : Word) (s : State) : State :=
  match r with
  | .thresh => s.setThresh v
  | .key i => s.setKey (s.key.set i v)
  | .din w => s.setDin (quadSet s.din w v)
  | .rkin w => s.setRkin (quadSet s.rkin w v)
  | .cmd => s
  | .status => s
  | .dout _ => s
  | .iv _ => s
  | .rk _ _ => s

/-- `HostRead(idx)`: the register's value and no state change, or 0 and an error (20_memory.md R51). -/
def hostRead (idx : Index) (s : State) : State :=
  match regAt idx with
  | none => (raiseError .unmapped s).setResponse (some 0)
  | some r =>
    match access r with
    | .wo => (raiseError .readWo s).setResponse (some 0)
    | .ro => s.setResponse (some (readReg r s))
    | .rw => s.setResponse (some (readReg r s))

end Sys2Proof.Machine
end

