-- ==== Sys2Proof/Machine/Round.lean ====
section
/-! DEFINITION. The ARX round transform (40_round_transform.md): `RoundFwd`, `RoundInv` and the two commands
RNDE and RNDD. The diffusion constants are an argument of every function here, since each rule holds for
every choice of them (00_scope.md R11); the commands pass `Config.D`. -/

namespace Sys2Proof.Machine

/-- `rotl(x, r) = shl(x, r) | shr(x, 64 - r)` for `1 <= r <= 63` (00_scope.md R15; PRESUMED, log entry 11). -/
def rotl (x : Word) (r : Nat) : Word := (x <<< r) ||| (x >>> (64 - r))

/-- `rotr(x, r) = shr(x, r) | shl(x, 64 - r)` for `1 <= r <= 63` (00_scope.md R15; PRESUMED, log entry 11). -/
def rotr (x : Word) (r : Nat) : Word := (x >>> r) ||| (x <<< (64 - r))

/-- Step 2, ARX mix A, its four assignments in the order written (40_round_transform.md R102). -/
def mixA (x : Quad) : Quad :=
  let x0 := x.w0 + x.w1
  let x1 := rotl x.w1 13 ^^^ x0
  let x2 := x.w2 + x.w3
  let x3 := rotl x.w3 37 ^^^ x2
  ⟨x0, x1, x2, x3⟩

/-- Step 3, ARX mix B, its four assignments in the order written (40_round_transform.md R103). -/
def mixB (x : Quad) : Quad :=
  let x0 := x.w0 + x.w3
  let x3 := rotl x.w3 51 ^^^ x0
  let x2 := x.w2 + x.w1
  let x1 := rotl x.w1 7 ^^^ x2
  ⟨x0, x1, x2, x3⟩

/-- `PreMix(s, k)`, steps 1 to 3 (40_round_transform.md R101 to R103, R106). -/
def preMix (s k : Quad) : Quad := mixB (mixA (quadAdd s k))

/-- Step 4, linear diffusion: `t0`, `t1` first, then the four updates in order (40_round_transform.md R104). -/
def diffuse (x : Quad) : Quad :=
  let t0 := x.w0 ^^^ x.w2
  let t1 := x.w1 ^^^ x.w3
  let x0 := x.w0 ^^^ t1
  let x3 := x.w3 ^^^ t0
  let x1 := x.w1 ^^^ x0
  let x2 := x.w2 ^^^ x3
  ⟨x0, x1, x2, x3⟩

/-- `RoundFwd(s, k) = Diffuse(PreMix(s, k)) ^ D` (40_round_transform.md R105, R106). -/
def roundFwd (d s k : Quad) : Quad := quadXor (diffuse (preMix s k)) d

/-- Step 4': `t0`, `t1` from the current words, then the updates of step 4 in reverse order
(40_round_transform.md R109, decision D17). -/
def invDiffuse (x : Quad) : Quad :=
  let t0 := x.w0 ^^^ x.w2
  let t1 := x.w1 ^^^ x.w3
  let x2 := x.w2 ^^^ x.w3
  let x1 := x.w1 ^^^ x.w0
  let x3 := x.w3 ^^^ t0
  let x0 := x.w0 ^^^ t1
  ⟨x0, x1, x2, x3⟩

/-- Step 3', mix B undone, last assignment first (40_round_transform.md R109). -/
def invMixB (x : Quad) : Quad :=
  let x1 := rotr (x.w1 ^^^ x.w2) 7
  let x2 := x.w2 - x1
  let x3 := rotr (x.w3 ^^^ x.w0) 51
  let x0 := x.w0 - x3
  ⟨x0, x1, x2, x3⟩

/-- Step 2', mix A undone, last assignment first (40_round_transform.md R109). -/
def invMixA (x : Quad) : Quad :=
  let x3 := rotr (x.w3 ^^^ x.w2) 37
  let x2 := x.w2 - x3
  let x1 := rotr (x.w1 ^^^ x.w0) 13
  let x0 := x.w0 - x1
  ⟨x0, x1, x2, x3⟩

/-- `InvPreMix(u, k)`, steps 3', 2', 1' (40_round_transform.md R107, R109). -/
def invPreMix (u k : Quad) : Quad := quadSub (invMixA (invMixB u)) k

/-- `RoundInv(s, k) = InvPreMix(InvDiffuse(s ^ D), k)` (40_round_transform.md R109). It is not an inverse of
`RoundFwd`, which has none (R108). -/
def roundInv (d s k : Quad) : Quad := invPreMix (invDiffuse (quadXor s d)) k

/-- RNDE: `DOUT <- RoundFwd(DIN, RKIN)` (40_round_transform.md R110). -/
def execRnde (s : State) : Host.Outcome State Fault Refusal :=
  .next (s.setDout (roundFwd Config.D s.din s.rkin))

/-- RNDD: `DOUT <- RoundInv(DIN, RKIN)` (40_round_transform.md R111). -/
def execRndd (s : State) : Host.Outcome State Fault Refusal :=
  .next (s.setDout (roundInv Config.D s.din s.rkin))

end Sys2Proof.Machine
end

