-- ==== Sys2Proof/Machine/Block.lean ====
section
/-! DEFINITION. The block cipher engine with IV masking and the commands ENC, DEC, IVSET and IVCLR
(42_block_engine.md). The round loops are shared with the extra-rounds path (43_adaptive_mode.md R179,
R180), which differs in the number of iterations alone. -/

namespace Sys2Proof.Machine

/-- The round key of iteration `j`: the schedule wraps, `rk[j mod 24]` (43_adaptive_mode.md R179). For
`j < 24` it is `rk[j]` (42_block_engine.md R151). -/
def wrappedKey (rk : Vector Quad 24) (j : Nat) : Quad := rk[j % 24]'(Nat.mod_lt j (by decide))

/-- The IV XORed in or out at the block boundary if present (42_block_engine.md R151, R154). -/
def maskIv (ivv : Bool) (iv s : Quad) : Quad := if ivv then quadXor s iv else s

/-- `n` forward rounds, iteration `j` with `rk[j mod 24]` (42_block_engine.md R151, 43_adaptive_mode.md R179). -/
def forwardRounds (d : Quad) (rk : Vector Quad 24) (n : Nat) (s : Quad) : Quad :=
  (List.range n).foldl (fun x j => roundFwd d x (wrappedKey rk j)) s

/-- `n` inverse-direction rounds, iteration `j` with `rk[(n-1-j) mod 24]`: the forward key sequence
reversed (42_block_engine.md R151, 43_adaptive_mode.md R180). -/
def inverseRounds (d : Quad) (rk : Vector Quad 24) (n : Nat) (s : Quad) : Quad :=
  (List.range n).foldl (fun x j => roundInv d x (wrappedKey rk (n - 1 - j))) s

/-- `EncryptState` (42_block_engine.md R151). -/
def encryptState (d : Quad) (rk : Vector Quad 24) (ivv : Bool) (iv s : Quad) : Quad :=
  forwardRounds d rk Config.rounds (maskIv ivv iv s)

/-- `DecryptState` (42_block_engine.md R151). -/
def decryptState (d : Quad) (rk : Vector Quad 24) (ivv : Bool) (iv s : Quad) : Quad :=
  maskIv ivv iv (inverseRounds d rk Config.rounds s)

/-- ENC: `DOUT <- EncryptState(RK, IVV, IV, DIN)` (42_block_engine.md R152). It runs unkeyed too (R158). -/
def execEnc (s : State) : Host.Outcome State Fault Refusal :=
  .next (s.setDout (encryptState Config.D s.rk s.ivv s.iv s.din))

/-- DEC: `DOUT <- DecryptState(RK, IVV, IV, DIN)` (42_block_engine.md R153). -/
def execDec (s : State) : Host.Outcome State Fault Refusal :=
  .next (s.setDout (decryptState Config.D s.rk s.ivv s.iv s.din))

/-- IVSET: `IV <- DIN`, `IVV <- 1` (42_block_engine.md R155). -/
def execIvset (s : State) : Host.Outcome State Fault Refusal := .next (s.setIv true s.din)

/-- IVCLR: `IV <- 0`, `IVV <- 0` (42_block_engine.md R156). -/
def execIvclr (s : State) : Host.Outcome State Fault Refusal := .next (s.setIv false Quad.zero)

end Sys2Proof.Machine
end

