-- ==== Sys2Proof/Machine/Adaptive.lean ====
section
/-! DEFINITION. The adaptive mode engine: the histogram of a block, the round-count selector in its exact
integer form, the extra-rounds functions, and the commands ENCA and DECX (43_adaptive_mode.md). The
real-valued score that the selector is equivalent to is in Sys2Proof/Safety.lean. -/

namespace Sys2Proof.Machine

/-- The 256 byte values. -/
def byteValues : List Byte := (List.range 256).map (BitVec.ofNat 8)

/-- `count_v(B)` for `v = 0 .. 255` (43_adaptive_mode.md R171). -/
def histogram (block : List Byte) : List Nat := byteValues.map fun v => block.count v

/-- The non-zero counts of a block, all that the score depends on (43_adaptive_mode.md R172). -/
def positiveCounts (block : List Byte) : List Nat := (histogram block).filter fun c => 0 < c

/-- `P(B)`, the product of `count_v ^ count_v` over `count_v > 0` (43_adaptive_mode.md R173). -/
def countProduct (block : List Byte) : Nat := ((positiveCounts block).map fun c => c ^ c).foldl (· * ·) 1

/-- `Extra(B, THRESH)`, the round-count selector (43_adaptive_mode.md R176): with `n = sint64(THRESH)`,
`n < 40960` and `P(B)^256 < 2^(40960 - n)`. A negative threshold selects the extra path for every block
(R178 (b)); it is answered first so that no power of `2^63` is computed (DEDUCED, log entry 8). -/
def extraSelected (block : List Byte) (thresh : Word) : Bool :=
  let n := sint64 thresh
  if n < 0 then true
  else if n < 40960 then countProduct block ^ 256 < 2 ^ (40960 - n).toNat
  else false

/-- `ExtraEncryptState`: the IV once, then 48 rounds with the schedule used twice (43_adaptive_mode.md R179). -/
def extraEncryptState (d : Quad) (rk : Vector Quad 24) (ivv : Bool) (iv s : Quad) : Quad :=
  forwardRounds d rk Config.xrounds (maskIv ivv iv s)

/-- `ExtraDecryptState`: 48 inverse-direction rounds, then the IV once (43_adaptive_mode.md R180). -/
def extraDecryptState (d : Quad) (rk : Vector Quad 24) (ivv : Bool) (iv s : Quad) : Quad :=
  maskIv ivv iv (inverseRounds d rk Config.xrounds s)

/-- ENCA: 48 rounds and `XMODE <- 1` where the selector holds of the input block before IV masking, else as
ENC with `XMODE <- 0` (43_adaptive_mode.md R177). -/
def execEnca (s : State) : Host.Outcome State Fault Refusal :=
  let extra := extraSelected (bytes32 s.din) s.thresh
  let result :=
    if extra then extraEncryptState Config.D s.rk s.ivv s.iv s.din
    else encryptState Config.D s.rk s.ivv s.iv s.din
  .next ((s.setDout result).setXmode extra)

/-- DECX: `DOUT <- ExtraDecryptState(RK, IVV, IV, DIN)`; `THRESH` and `XMODE` are not read
(43_adaptive_mode.md R181). -/
def execDecx (s : State) : Host.Outcome State Fault Refusal :=
  .next (s.setDout (extraDecryptState Config.D s.rk s.ivv s.iv s.din))

end Sys2Proof.Machine
end

