-- ==== Sys2Proof/Machine/KeySchedule.lean ====
section
/-! DEFINITION. The key schedule, the hash port and the command KEYSETUP (41_key_schedule.md). The hash is an
argument of the schedule, since every rule holds for every function (00_scope.md R12); KEYSETUP passes `Config.hash`. -/

namespace Sys2Proof.Machine

/-- The 72-byte message of round `i`: `K || le64(i)` (41_key_schedule.md R132). -/
def hashMessage (k : List Byte) (i : Nat) : List Byte := k ++ le64 (BitVec.ofNat 64 i)

/-- A round key: digest bytes 0 to 31 as four little-endian words; bytes 32 to 63 are discarded
(41_key_schedule.md R132, decision D32, 90_conflicts.md C2). -/
def roundKeyOf (dg : Config.Digest) : Quad := words4 dg.toList

/-- `KeySchedule(K)`: 24 uses of the hash port, `i = 0 .. 23` (41_key_schedule.md R130 to R132). -/
def keySchedule (hash : List Byte → Config.Digest) (k : List Byte) : Vector Quad 24 :=
  Vector.ofFn fun i : Fin 24 => roundKeyOf (hash (hashMessage k i))

/-- KEYSETUP: `RK` replaced whole, `KEYED <- 1`, `KEY <- 0` (41_key_schedule.md R133). The adapter always
answers (R136; log entry 2). -/
def execKeysetup (s : State) : Host.Outcome State Fault Refusal :=
  .next (((s.setRk (keySchedule Config.hash (keyBytesOf s.key))).setKeyed true).setKey (Vector.replicate 8 0))

end Sys2Proof.Machine
end

