-- ==== Sys2Proof/Machine/Dispatch.lean ====
section
/-! DEFINITION. The dispatch of the nine commands (30_encoding.md R82), one arm per constructor. -/

namespace Sys2Proof.Machine

def exec (i : Instr) (s : State) : Host.Outcome State Fault Refusal :=
  match i with
  | .keysetup => Sys2Proof.Machine.execKeysetup s
  | .ivset => Sys2Proof.Machine.execIvset s
  | .ivclr => Sys2Proof.Machine.execIvclr s
  | .enc => Sys2Proof.Machine.execEnc s
  | .dec => Sys2Proof.Machine.execDec s
  | .enca => Sys2Proof.Machine.execEnca s
  | .decx => Sys2Proof.Machine.execDecx s
  | .rnde => Sys2Proof.Machine.execRnde s
  | .rndd => Sys2Proof.Machine.execRndd s

end Sys2Proof.Machine
end

