-- ==== Sys2Proof/Machine/Port.lean ====
section
/-! DEFINITION. The host port's write side and the events at the core's inputs: `perform` (30_encoding.md R82),
`HostWrite` (20_memory.md R52), `Reset` (70_reset_and_hazards.md R230), and a finite sequence of events
applied first to last (20_memory.md R61). -/

namespace Sys2Proof.Machine

/-- `perform(v)`: the command the word selects, or ILLCMD and nothing else (30_encoding.md R82, R84). -/
def perform (v : Word) (s : State) : Host.Outcome State Fault Refusal :=
  match decode v with
  | .ok i => exec i s
  | .error _ => .next (raiseError .illcmd s)

/-- `HostWrite(idx, v)` (20_memory.md R52): a command, a stored word, or an error with no other effect.
`CMD` is write-only in the map, so its arm stands before the access rights. -/
def hostWrite (idx : Index) (v : Word) (s : State) : Host.Outcome State Fault Refusal :=
  match regAt idx with
  | none => .next (raiseError .unmapped s)
  | some .cmd => perform v s
  | some r =>
    match access r with
    | .ro => .next (raiseError .writeRo s)
    | .wo => .next (writeReg r v s)
    | .rw => .next (writeReg r v s)

/-- `Reset`: every piece of architectural state at its reset value, whatever it held (70_reset_and_hazards.md
R230). The events still waiting outside are the outside world's and stay (log entry 3). -/
def resetEvent (s : State) : State := State.reset.setPending s.pending

/-- One event performed whole (20_memory.md R61; DEDUCED, log entry 10). The answer of the event before is
gone; a write and a reset return nothing (R52; log entry 4). -/
def performEvent (e : PortEvent) (s : State) : Host.Outcome State Fault Refusal :=
  match e with
  | .read idx => .next (hostRead idx (s.setResponse none))
  | .write idx v => hostWrite idx v (s.setResponse none)
  | .reset => .next (resetEvent s)

/-- A sequence of events applied first to last, each completely (20_memory.md R61). -/
def performAll (es : List PortEvent) (s : State) : Host.Outcome State Fault Refusal :=
  match es with
  | [] => .next s
  | e :: rest =>
    match performEvent e s with
    | .next t => performAll rest t
    | .fault r => .fault r
    | .refused r => .refused r

end Sys2Proof.Machine
end

