-- ==== Sys2Proof/Machine/Step.lean ====
section
/-! DEFINITION. One step: the oldest waiting event is performed whole (70_reset_and_hazards.md R243, "a model
gives every host operation one step"). The core has no program counter and fetches nothing (10_state.md
R37); where a processor fetches, this core is written a command word. -/

namespace Sys2Proof.Machine

/-- One step of the core. With no event waiting nothing changes (10_state.md R38; log entry 5). -/
def step (s : State) : Host.Outcome State Fault Refusal :=
  match s.pending with
  | [] => .next s
  | e :: rest => performEvent e (s.setPending rest)

/-- `s` with the write of the command word `w` to `CMD` presented as the next event, so that the very next
step runs that command (log entry 6). The bits above `nbits` are 0; a command word has 64. -/
def State.withFetchWord (s : State) (nbits w : Nat) : State :=
  s.setPending (.write 0x00 (BitVec.ofNat 64 (w % 2 ^ nbits)) :: s.pending)

end Sys2Proof.Machine
end

