-- ==== Sys2Proof/Safety.lean ====
section
/-! DEFINITION. The terms statements are written in: the invariant of the state (10_state.md R28, R29, R34;
60_exceptions.md R202) and the real-valued entropy score of 43_adaptive_mode.md R172 that the
integer selector of Machine/Adaptive.lean stands for. Nothing here is run by the machine. -/

namespace Sys2Proof.Machine

/-- What holds of every state a run from reset can reach. -/
structure State.Inv (s : State) : Prop where
  /-- `IVV = 0` implies `IV = 0` (10_state.md R28). -/
  ivAbsent : s.ivv = false → s.iv = Quad.zero
  /-- `KEYED = 0` implies all `RK` words are 0 (10_state.md R29). -/
  unkeyed : s.keyed = false → s.rk = Vector.replicate 24 Quad.zero
  /-- `ERRCODE` is 0 exactly while `ERR = 0` (10_state.md R34, 60_exceptions.md R202). -/
  errCodeZero : s.err = false ↔ s.errCode = 0
  /-- The reserved codes 5 to 15 are never produced (60_exceptions.md R202). -/
  errCodeAssigned : s.errCode.toNat ≤ 4

/-- `H(B) = - sum of p_v * log2(p_v)` over the values with a non-zero count, `p_v = count_v / 32`
(43_adaptive_mode.md R172), an exact real number. -/
noncomputable def entropy (block : List Byte) : ℝ :=
  -((positiveCounts block).map fun (c : Nat) => ((c : ℝ) / 32) * Real.logb 2 ((c : ℝ) / 32)).sum

/-- `Hn(B) = H(B) / 8` (43_adaptive_mode.md R172). -/
noncomputable def normalizedEntropy (block : List Byte) : ℝ := entropy block / 8

/-- `S(B)`, the sum of `count_v * log2(count_v)` (43_adaptive_mode.md R173). -/
noncomputable def countLogSum (block : List Byte) : ℝ :=
  ((positiveCounts block).map fun (c : Nat) => (c : ℝ) * Real.logb 2 (c : ℝ)).sum

/-- `T = sint64(THRESH) / 65536` (10_state.md R30). -/
noncomputable def thresholdValue (thresh : Word) : ℝ := (sint64 thresh : ℝ) / 65536

end Sys2Proof.Machine
end

