-- ==== Sys2Proof/Machine/Script.lean ====
section
/-! DEFINITION. The host-script notation (30_encoding.md R87, R88): script lines, pseudo-operations and
their fixed expansions into port events. It is how the spec writes a host's programs; the core knows only the events. -/

namespace Sys2Proof.Machine

/-- A register as a script writes it: a name of the register map with plain numbers, or a literal index
(30_encoding.md R87). -/
inductive RegName where
  | cmd
  | status
  | thresh
  | key (i : Nat)
  | din (w : Nat)
  | dout (w : Nat)
  | rkin (w : Nat)
  | iv (w : Nat)
  | rk (r w : Nat)
  /-- `@0x12` -/
  | literal (index : Nat)
  deriving DecidableEq, Repr

/-- A line of a host script (30_encoding.md R87) or a pseudo-operation (R88). -/
inductive ScriptLine where
  /-- `WR reg, value`. -/
  | wr (reg : RegName) (value : Word)
  /-- `RD reg`, with the expected result where the line states one. -/
  | rd (reg : RegName) (expected : Option Word)
  /-- A mnemonic: the write of its word to `CMD`. -/
  | command (i : Instr)
  /-- `RESET`, the reset event. -/
  | reset
  /-- `LDKEY B`, 64 bytes. -/
  | ldkey (bytes : List Byte)
  /-- `LDBLK B`, 32 bytes. -/
  | ldblk (bytes : List Byte)
  /-- `LDBLKW a,b,c,d`. -/
  | ldblkw (q : Quad)
  /-- `LDRKW a,b,c,d`. -/
  | ldrkw (q : Quad)
  /-- `SETIVW a,b,c,d`. -/
  | setivw (q : Quad)
  /-- `SETTHR n`, threshold `n/65536`. -/
  | setthr (n : Int)
  /-- `RDBLK`. -/
  | rdblk
  deriving DecidableEq, Repr

/-- The index a register name stands for (30_encoding.md R87, 20_memory.md R53). -/
def nameIndex (n : RegName) : Index :=
  match n with
  | .cmd => 0x00
  | .status => 0x01
  | .thresh => 0x02
  | .key i => BitVec.ofNat 8 (0x08 + i)
  | .din w => BitVec.ofNat 8 (0x10 + w)
  | .dout w => BitVec.ofNat 8 (0x14 + w)
  | .rkin w => BitVec.ofNat 8 (0x18 + w)
  | .iv w => BitVec.ofNat 8 (0x1C + w)
  | .rk r w => BitVec.ofNat 8 (0x20 + 4 * r + w)
  | .literal i => BitVec.ofNat 8 i

/-- Writes of a list of words to consecutive indices, first to last. -/
def writesFrom (base : Nat) : List Word → List PortEvent
  | [] => []
  | v :: vs => .write (BitVec.ofNat 8 base) v :: writesFrom (base + 1) vs

/-- The words of a 4-tuple, word 0 first. -/
def quadWords (q : Quad) : List Word := [q.w0, q.w1, q.w2, q.w3]

/-- The port events a script line stands for, in order (30_encoding.md R87, R88). -/
def expandLine (l : ScriptLine) : List PortEvent :=
  match l with
  | .wr reg v => [.write (nameIndex reg) v]
  | .rd reg _ => [.read (nameIndex reg)]
  | .command i => [.write 0x00 (encode i)]
  | .reset => [.reset]
  | .ldkey bytes => writesFrom 0x08 (words8 bytes).toList
  | .ldblk bytes => writesFrom 0x10 (quadWords (words4 bytes))
  | .ldblkw q => writesFrom 0x10 (quadWords q)
  | .ldrkw q => writesFrom 0x18 (quadWords q)
  | .setivw q => writesFrom 0x10 (quadWords q) ++ [.write 0x00 (encode .ivset)]
  | .setthr n => [.write 0x02 (BitVec.ofInt 64 n)]
  | .rdblk => [.read 0x14, .read 0x15, .read 0x16, .read 0x17]

/-- A whole script as port events: lines first to last, no branching (10_state.md R37). -/
def expandScript (p : List ScriptLine) : List PortEvent := p.flatMap expandLine

/-- The machine with a script presented at its port after what already waits there. -/
def State.withScript (s : State) (p : List ScriptLine) : State := s.setPending (s.pending ++ expandScript p)

/-- What a line states of the result: `RD reg = value` expects the read's answer (30_encoding.md R87). -/
def lineMeets (l : ScriptLine) (t : State) : Bool :=
  match l with
  | .rd _ (some v) => t.response == some v
  | _ => true

/-- A script performed first to last, every stated result met (30_encoding.md R87, 20_memory.md R61). -/
def scriptMeets (p : List ScriptLine) (s : State) : Bool :=
  match p with
  | [] => true
  | l :: rest =>
    match performAll (expandLine l) s with
    | .next t => lineMeets l t && scriptMeets rest t
    | .fault _ => false
    | .refused _ => false

end Sys2Proof.Machine
end

