-- ==== Sys2Proof/WellFormed.lean ====
section
/-! DEFINITION. The checks on terms: a command word (30_encoding.md R84, R89), a register name and a script
line (R87, R88). An `Instr` itself has no operand (R85), so every one is well formed. -/

namespace Sys2Proof

/-- A command word is legal when some row of the table selects it (30_encoding.md R84, R89). -/
def WordLegal (v : Word) : Bool := opcodeTable.any fun r => r.selects v

/-- Every constructor of `Instr` is well formed: no command has an operand (30_encoding.md R85). -/
def Instr.WellFormed (i : Instr) : Bool :=
  match i with
  | .keysetup => true
  | .ivset => true
  | .ivclr => true
  | .enc => true
  | .dec => true
  | .enca => true
  | .decx => true
  | .rnde => true
  | .rndd => true

/-- A register name with its numbers in range (20_memory.md R53), or a literal index of 8 bits (R50). -/
def Machine.RegName.WellFormed (n : Machine.RegName) : Bool :=
  match n with
  | .cmd => true
  | .status => true
  | .thresh => true
  | .key i => i < 8
  | .din w => w < 4
  | .dout w => w < 4
  | .rkin w => w < 4
  | .iv w => w < 4
  | .rk r w => r < 24 && w < 4
  | .literal i => i < 256

/-- A script line with its registers in range and its byte strings of the stated length (30_encoding.md
R87, R88). -/
def Machine.ScriptLine.WellFormed (l : Machine.ScriptLine) : Bool :=
  match l with
  | .wr reg _ => reg.WellFormed
  | .rd reg _ => reg.WellFormed
  | .command i => i.WellFormed
  | .reset => true
  | .ldkey bytes => bytes.length == 64
  | .ldblk bytes => bytes.length == 32
  | .ldblkw _ => true
  | .ldrkw _ => true
  | .setivw _ => true
  | .setthr _ => true
  | .rdblk => true

end Sys2Proof
end

