-- ==== Sys2Proof/Certificates/Slice0/Obligations.lean ====
section
/-! DEFINITION. The statements for the provers, taken from the numbered rules of spec/. A statement whose
conclusion is `exec i s = .next ...` says the result, the completion and the frame at once: every field the
record update does not name is unchanged. -/

open Sys2Proof Sys2Proof.Machine

/-! ## Encoding -/

/-- 30_encoding.md R83: "word" is the only 64-bit value that selects the command. Every well-formed command
decodes from its own word, no other word decodes to it, and every other word is refused. -/
def Obligations.DecodeAcceptsExactlyTheEncodedWords : Prop :=
  (∀ i : Instr, i.WellFormed = true → decode (encode i) = .ok i) ∧
  (∀ (v : Word) (i : Instr), decode v = .ok i → v = encode i) ∧
  (∀ v : Word, (∀ i : Instr, v ≠ encode i) → ∃ e, decode v = .error e)

/-- 30_encoding.md R89: a word selects a row exactly when `(v & mask) = match`; the decoder and the table
agree on every word, no word selects two rows, and a word that selects no row is illegal. -/
def Obligations.DecoderAgreesWithOpcodeTable : Prop :=
  (∀ (v : Word) (r : OpcodeRow), r ∈ opcodeTable → (v &&& r.mask = r.matchWord ↔ decode v = .ok r.instr)) ∧
  (∀ (v : Word) (r r' : OpcodeRow), r ∈ opcodeTable → r' ∈ opcodeTable →
    r.selects v = true → r'.selects v = true → r = r') ∧
  (∀ v : Word, WordLegal v = false ↔ ∃ e, decode v = .error e) ∧
  (∀ r : OpcodeRow, r ∈ opcodeTable → r.mask = 0xFFFFFFFFFFFFFFFF)

/-- The nine words of 30_encoding.md R83 written out, and the neighbours of E2 to E6 refused. -/
def Obligations.WrittenOutWordsDecode : Prop :=
  decode 0x0000000000000001 = .ok .keysetup ∧ decode 0x0000000000000002 = .ok .ivset ∧
  decode 0x0000000000000003 = .ok .ivclr ∧ decode 0x0000000000000010 = .ok .enc ∧
  decode 0x0000000000000011 = .ok .dec ∧ decode 0x0000000000000012 = .ok .enca ∧
  decode 0x0000000000000013 = .ok .decx ∧ decode 0x0000000000000020 = .ok .rnde ∧
  decode 0x0000000000000021 = .ok .rndd ∧ decode 0x0000000000000110 = .error .upperBitsSet ∧
  decode 0x0000000000000000 = .error .unassignedOpcode ∧ decode 0x0000000000000022 = .error .unassignedOpcode

/-- 30_encoding.md R84: a word with a bit of 63:8 set, or with an unassigned opcode, raises ILLCMD (code 1)
and has no other effect. -/
def Obligations.IllegalWordRaisesIllcmdAndNothingElse : Prop :=
  ∀ (v : Word) (s : State),
    (v.toNat / 256 ≠ 0 ∨ v.toNat % 256 ∉ [0x01, 0x02, 0x03, 0x10, 0x11, 0x12, 0x13, 0x20, 0x21]) →
    hostWrite 0x00 v s = .next { s with err := true, errCode := if s.err then s.errCode else 1 }

/-! ## Steps -/

/-- When the waiting event is a write to `CMD` of a word that decodes to the command `i`, the step is `exec i`
of the state with that event gone and the port's last answer cleared (10_state.md R37, 30_encoding.md R81, R82). -/
def Obligations.StepRunsTheDecodedCommand : Prop :=
  ∀ (s : State) (v : Word) (i : Instr) (rest : List PortEvent),
    s.pending = .write 0x00 v :: rest → decode v = .ok i → i.WellFormed = true →
    step s = exec i { s with pending := rest, response := none }

/-- The model's own interface (log entry 6): the step after `withFetchWord` of a command's word runs exactly
that command, and the word reads as the table numbers its bits. -/
def Obligations.FetchedWordRunsItsCommand : Prop :=
  (∀ (s : State) (i : Instr),
    step (s.withFetchWord 64 (encode i).toNat) = exec i { s with response := none }) ∧
  (∀ v : Word, decodeTableWord 64 v.toNat = decodeOption v)

/-- 20_memory.md R61 in the model's form: a step performs the oldest waiting event and nothing else. With none
waiting nothing changes (the model's choice, log entry 5). -/
def Obligations.StepPerformsTheOldestEvent : Prop :=
  (∀ s : State, s.pending = [] → step s = .next s) ∧
  (∀ (s : State) (idx : Index) (rest : List PortEvent), s.pending = .read idx :: rest →
    step s = .next (hostRead idx { s with pending := rest, response := none })) ∧
  (∀ (s : State) (idx : Index) (v : Word) (rest : List PortEvent), s.pending = .write idx v :: rest →
    step s = hostWrite idx v { s with pending := rest, response := none })

/-- 20_memory.md R61, R62: as many steps as there are events give the state obtained by applying the events
first to last, and events presented later stay untouched. -/
def Obligations.RunAppliesEventsFirstToLast : Prop :=
  ∀ (es later : List PortEvent) (s : State),
    Host.Core.run Sys2Proof.core es.length (s.setPending (es ++ later)) =
      performAll es (s.setPending later)

/-- 60_exceptions.md R203, R208, R213: the core never stops. Every step from every state answers a
next state (log entry 9; that KEYSETUP completes rests on the adapter answering, log entry 2). -/
def Obligations.EveryStepCompletes : Prop := ∀ s : State, ∃ t : State, step s = .next t

/-! ## Reset -/

/-- 70_reset_and_hazards.md R231: the value of every piece of state after reset. -/
def Obligations.ResetLeavesTheListedValues : Prop :=
  (∀ r : Fin 24, State.reset.rk[r] = ⟨0, 0, 0, 0⟩) ∧ State.reset.keyed = false ∧ State.reset.ivv = false ∧
  State.reset.iv = ⟨0, 0, 0, 0⟩ ∧ State.reset.thresh = 0x000000000000B333 ∧ (∀ i : Fin 8, State.reset.key[i] = 0) ∧
  State.reset.din = ⟨0, 0, 0, 0⟩ ∧ State.reset.dout = ⟨0, 0, 0, 0⟩ ∧ State.reset.rkin = ⟨0, 0, 0, 0⟩ ∧
  State.reset.xmode = false ∧ State.reset.err = false ∧ State.reset.errCode = 0 ∧
  statusWord State.reset = 0x0000000000000000

/-- 70_reset_and_hazards.md R230, R232: the reset event puts every piece of state at its reset value whatever
it held, so no function of an earlier key remains; only the events still waiting outside are kept (log entry 3). -/
def Obligations.ResetEventForgetsEverything : Prop :=
  ∀ (s : State) (rest : List PortEvent), s.pending = .reset :: rest →
    step s = .next { State.reset with pending := rest }

/-! ## The invariant of the state -/

/-- 10_state.md R28, R29, R34 and 60_exceptions.md R202: every step keeps the invariant, from every state that meets it. -/
def Obligations.EveryStepKeepsTheStateInvariant : Prop :=
  ∀ s t : State, s.Inv → step s = .next t → t.Inv

/-- The invariant holds after reset (70_reset_and_hazards.md R231). -/
def Obligations.ResetMeetsTheStateInvariant : Prop := State.reset.Inv

/-! ## The host port -/

/-- 20_memory.md R53, R54: the register map row by row, and the 133 unmapped indices. -/
def Obligations.RegisterMapIsAsTabulated : Prop :=
  regAt 0x00 = some .cmd ∧ regAt 0x01 = some .status ∧ regAt 0x02 = some .thresh ∧
  (∀ i : Fin 8, regAt (0x08 + BitVec.ofNat 8 i) = some (.key i)) ∧
  (∀ w : Fin 4, regAt (0x10 + BitVec.ofNat 8 w) = some (.din w)) ∧
  (∀ w : Fin 4, regAt (0x14 + BitVec.ofNat 8 w) = some (.dout w)) ∧
  (∀ w : Fin 4, regAt (0x18 + BitVec.ofNat 8 w) = some (.rkin w)) ∧
  (∀ w : Fin 4, regAt (0x1C + BitVec.ofNat 8 w) = some (.iv w)) ∧
  (∀ (r : Fin 24) (w : Fin 4), regAt (0x20 + 4 * BitVec.ofNat 8 r + BitVec.ofNat 8 w) = some (.rk r w)) ∧
  (∀ idx : Index, regAt idx = none ↔ (0x03 ≤ idx.toNat ∧ idx.toNat ≤ 0x07) ∨ 0x80 ≤ idx.toNat)

/-- 10_state.md R26, 20_memory.md R53: no two indices name one register, and every register has its index. -/
def Obligations.RegisterMapHasNoAliases : Prop :=
  (∀ r : Reg, regAt (regIndex r) = some r) ∧
  (∀ (idx idx' : Index) (r : Reg), regAt idx = some r → regAt idx' = some r → idx = idx')

/-- 20_memory.md R51, first case: a read of a readable register returns its value and changes nothing. -/
def Obligations.ReadReturnsTheRegisterAndChangesNothing : Prop :=
  ∀ s : State,
    hostRead 0x01 s = { s with response := some (statusWord s) } ∧
    hostRead 0x02 s = { s with response := some s.thresh } ∧
    (∀ w : Fin 4, hostRead (0x10 + BitVec.ofNat 8 w) s = { s with response := some (quadGet s.din w) }) ∧
    (∀ w : Fin 4, hostRead (0x14 + BitVec.ofNat 8 w) s = { s with response := some (quadGet s.dout w) }) ∧
    (∀ w : Fin 4, hostRead (0x18 + BitVec.ofNat 8 w) s = { s with response := some (quadGet s.rkin w) }) ∧
    (∀ w : Fin 4, hostRead (0x1C + BitVec.ofNat 8 w) s = { s with response := some (quadGet s.iv w) }) ∧
    (∀ (r : Fin 24) (w : Fin 4), hostRead (0x20 + 4 * BitVec.ofNat 8 r + BitVec.ofNat 8 w) s =
      { s with response := some (quadGet s.rk[r] w) })

/-- 20_memory.md R51, the other cases, 60_exceptions.md R205, R207: a read of an unmapped index raises UNMAPPED
(2), a read of `CMD` or `KEY[i]` raises READ_WO (4); either returns 0, keeps an earlier error's code and
changes nothing else. -/
def Obligations.RefusedReadReturnsZeroAndRaisesItsCause : Prop :=
  ∀ (idx : Index) (s : State),
    ((0x03 ≤ idx.toNat ∧ idx.toNat ≤ 0x07) ∨ 0x80 ≤ idx.toNat →
      hostRead idx s =
        { s with err := true, errCode := if s.err then s.errCode else 2, response := some 0 }) ∧
    (idx.toNat = 0x00 ∨ (0x08 ≤ idx.toNat ∧ idx.toNat ≤ 0x0F) →
      hostRead idx s =
        { s with err := true, errCode := if s.err then s.errCode else 4, response := some 0 })

/-- 20_memory.md R52, second case: a write to a writable register stores all 64 bits and changes nothing else. -/
def Obligations.WriteStoresTheWordAndNothingElse : Prop :=
  ∀ (v : Word) (s : State),
    hostWrite 0x02 v s = .next { s with thresh := v } ∧
    (∀ i : Fin 8, hostWrite (0x08 + BitVec.ofNat 8 i) v s = .next { s with key := s.key.set i v }) ∧
    (hostWrite 0x10 v s = .next { s with din := { s.din with w0 := v } } ∧
      hostWrite 0x11 v s = .next { s with din := { s.din with w1 := v } } ∧
      hostWrite 0x12 v s = .next { s with din := { s.din with w2 := v } } ∧
      hostWrite 0x13 v s = .next { s with din := { s.din with w3 := v } }) ∧
    (hostWrite 0x18 v s = .next { s with rkin := { s.rkin with w0 := v } } ∧
      hostWrite 0x19 v s = .next { s with rkin := { s.rkin with w1 := v } } ∧
      hostWrite 0x1A v s = .next { s with rkin := { s.rkin with w2 := v } } ∧
      hostWrite 0x1B v s = .next { s with rkin := { s.rkin with w3 := v } })

/-- 20_memory.md R52, the error cases, 60_exceptions.md R205, R206: a write to an unmapped index raises UNMAPPED
(2), a write to `STATUS`, `DOUT[w]`, `IV[w]` or `RK[r][w]` raises WRITE_RO (3), and nothing else changes. -/
def Obligations.RefusedWriteRaisesItsCauseAndNothingElse : Prop :=
  ∀ (idx : Index) (v : Word) (s : State),
    ((0x03 ≤ idx.toNat ∧ idx.toNat ≤ 0x07) ∨ 0x80 ≤ idx.toNat →
      hostWrite idx v s = .next { s with err := true, errCode := if s.err then s.errCode else 2 }) ∧
    (idx.toNat = 0x01 ∨ (0x14 ≤ idx.toNat ∧ idx.toNat ≤ 0x17) ∨ (0x1C ≤ idx.toNat ∧ idx.toNat ≤ 0x7F) →
      hostWrite idx v s = .next { s with err := true, errCode := if s.err then s.errCode else 3 })

/-- 10_state.md R26, 20_memory.md R59: a read after a write of a read-write register gives the value written, and
every other register of the map holds what it held. -/
def Obligations.WrittenRegisterReadsBackAndOthersKeep : Prop :=
  ∀ (r : Reg) (v : Word) (s : State), access r = .rw →
    ∃ t : State, hostWrite (regIndex r) v s = .next t ∧
      hostRead (regIndex r) t = { t with response := some v } ∧
      ∀ r' : Reg, r' ≠ r → readReg r' t = readReg r' s

/-- 10_state.md R32: the fields of `STATUS`. -/
def Obligations.StatusWordHoldsTheFlags : Prop :=
  ∀ s : State, (statusWord s).getLsbD 0 = s.keyed ∧ (statusWord s).getLsbD 1 = s.ivv ∧
    (statusWord s).getLsbD 2 = s.xmode ∧ (statusWord s).getLsbD 3 = s.err ∧ (statusWord s).extractLsb' 4 4 = s.errCode ∧
    (statusWord s).extractLsb' 8 56 = 0

/-! ## Errors -/

/-- 60_exceptions.md R202, R203: the error action with each cause's code; the first error's code is kept. -/
def Obligations.ErrorActionKeepsTheFirstCause : Prop :=
  (∀ (s : State) (c : ErrCause), s.err = false → raiseError c s =
    { s with err := true,
             errCode := match c with | .illcmd => 1 | .unmapped => 2 | .writeRo => 3 | .readWo => 4 }) ∧
  (∀ (s : State) (c : ErrCause), s.err = true → raiseError c s = s)

/-- 60_exceptions.md R213, 10_state.md R34: no event but reset clears `ERR` or changes the first error's code. -/
def Obligations.OnlyResetClearsTheError : Prop :=
  ∀ (s t : State) (e : PortEvent) (rest : List PortEvent), s.pending = e :: rest → e ≠ .reset →
    s.err = true → step s = .next t → t.err = true ∧ t.errCode = s.errCode

/-- 60_exceptions.md R213: `ERR` blocks nothing. A command does the same whatever `ERR` and `ERRCODE` hold, and
leaves them as they are. -/
def Obligations.ErrorFlagBlocksNoCommand : Prop :=
  ∀ (i : Instr) (s : State) (e : Bool) (c : BitVec 4),
    ∃ t : State, exec i s = .next t ∧ t.err = s.err ∧ t.errCode = s.errCode ∧
      exec i { s with err := e, errCode := c } = .next { t with err := e, errCode := c }

/-! ## Bytes, words and the word operations -/

/-- 00_scope.md R16: the byte and word conversions are inverse to each other, least significant byte first. -/
def Obligations.BlocksAndWordsConvertBothWays : Prop :=
  (∀ q : Quad, words4 (bytes32 q) = q) ∧
  (∀ bytes : List Byte, bytes.length = 32 → bytes32 (words4 bytes) = bytes) ∧
  (∀ (n : Word) (j : Fin 8), (le64 n)[j.val]? = some (n.extractLsb' (8 * j) 8)) ∧
  (∀ bytes : List Byte, bytes.length = 8 → (wordLe bytes).toNat =
    ∑ j ∈ Finset.range 8, (bytes.getD j 0).toNat * 2 ^ (8 * j))

/-- 10_state.md R25: key byte `j` is `KEY[j div 8]`, bits `8*(j mod 8)+7` down to `8*(j mod 8)`; there are 64. -/
def Obligations.KeyBytesAreTheKeyRegisters : Prop :=
  ∀ key : Vector Word 8, (keyBytesOf key).length = 64 ∧
    ∀ j : Fin 64, (keyBytesOf key)[j.val]? =
      some ((key[j.val / 8]'(by omega)).extractLsb' (8 * (j.val % 8)) 8)

/-- 00_scope.md R15 (PRESUMED, log entry 11): the rotations are the shift form, `rotr` undoes `rotl` and `rotl`
undoes `rotr`. -/
def Obligations.RotationsUndoEachOther : Prop :=
  ∀ (x : Word) (r : Nat), 1 ≤ r → r ≤ 63 →
    (rotl x r).toNat = (x.toNat * 2 ^ r) % 2 ^ 64 + x.toNat / 2 ^ (64 - r) ∧
    rotr (rotl x r) r = x ∧ rotl (rotr x r) r = x

/-! ## The round transform -/

/-- 40_round_transform.md R101 to R106: `PreMix` is steps 1 to 3 assignment by assignment, `Diffuse` is step 4 as
listed and in its closed form, and `RoundFwd` is step 5 after them, word by word. -/
def Obligations.RoundFwdFollowsTheFiveSteps : Prop :=
  (∀ s k : Quad, preMix s k =
    (let x0 := s.w0 + k.w0; let x1 := s.w1 + k.w1; let x2 := s.w2 + k.w2; let x3 := s.w3 + k.w3
     let x0 := x0 + x1
     let x1 := x1.rotateLeft 13 ^^^ x0
     let x2 := x2 + x3
     let x3 := x3.rotateLeft 37 ^^^ x2
     let x0 := x0 + x3
     let x3 := x3.rotateLeft 51 ^^^ x0
     let x2 := x2 + x1
     let x1 := x1.rotateLeft 7 ^^^ x2
     ⟨x0, x1, x2, x3⟩)) ∧
  (∀ u : Quad, diffuse u =
    (let t0 := u.w0 ^^^ u.w2
     let t1 := u.w1 ^^^ u.w3
     let x0 := u.w0 ^^^ t1
     let x3 := u.w3 ^^^ t0
     let x1 := u.w1 ^^^ x0
     let x2 := u.w2 ^^^ x3
     ⟨x0, x1, x2, x3⟩)) ∧
  (∀ u : Quad, diffuse u =
    ⟨u.w0 ^^^ u.w1 ^^^ u.w3, u.w0 ^^^ u.w3, u.w0 ^^^ u.w3, u.w0 ^^^ u.w2 ^^^ u.w3⟩) ∧
  (∀ d s k : Quad, roundFwd d s k =
    (let y := diffuse (preMix s k)
     ⟨y.w0 ^^^ d.w0, y.w1 ^^^ d.w1, y.w2 ^^^ d.w2, y.w3 ^^^ d.w3⟩))

/-- 40_round_transform.md R109: `RoundInv` as the spec lists it, assignment by assignment; `InvDiffuse` in its
closed form; and `RoundInv(s, k) = InvPreMix(InvDiffuse(s ^ D), k)`. -/
def Obligations.RoundInvFollowsTheListing : Prop :=
  (∀ d s k : Quad, roundInv d s k =
    (let x0 := s.w0 ^^^ d.w0; let x1 := s.w1 ^^^ d.w1; let x2 := s.w2 ^^^ d.w2; let x3 := s.w3 ^^^ d.w3
     let t0 := x0 ^^^ x2
     let t1 := x1 ^^^ x3
     let x2 := x2 ^^^ x3
     let x1 := x1 ^^^ x0
     let x3 := x3 ^^^ t0
     let x0 := x0 ^^^ t1
     let x1 := (x1 ^^^ x2).rotateRight 7
     let x2 := x2 - x1
     let x3 := (x3 ^^^ x0).rotateRight 51
     let x0 := x0 - x3
     let x3 := (x3 ^^^ x2).rotateRight 37
     let x2 := x2 - x3
     let x1 := (x1 ^^^ x0).rotateRight 13
     let x0 := x0 - x1
     ⟨x0 - k.w0, x1 - k.w1, x2 - k.w2, x3 - k.w3⟩)) ∧
  (∀ z : Quad, invDiffuse z =
    ⟨z.w0 ^^^ z.w1 ^^^ z.w3, z.w0 ^^^ z.w1, z.w2 ^^^ z.w3, z.w0 ^^^ z.w2 ^^^ z.w3⟩) ∧
  (∀ d s k : Quad, roundInv d s k =
    invPreMix (invDiffuse ⟨s.w0 ^^^ d.w0, s.w1 ^^^ d.w1, s.w2 ^^^ d.w2, s.w3 ^^^ d.w3⟩) k)

/-- 40_round_transform.md R107: steps 1 to 3 are a bijection for every key, with the inverse steps 3', 2', 1';
step 5 is its own inverse. -/
def Obligations.PreMixIsUndoneByInvPreMix : Prop :=
  (∀ s k : Quad, invPreMix (preMix s k) k = s) ∧ (∀ u k : Quad, preMix (invPreMix u k) k = u) ∧
  (∀ x d : Quad, quadXor (quadXor x d) d = x)

/-- 40_round_transform.md R108 (a): every output of the forward round has `c1 ^ c2 = D[1] ^ D[2]`, and exactly
`2^192` states are outputs. -/
def Obligations.ForwardRoundReachesOnlyItsImage : Prop :=
  ∀ d k : Quad,
    (∀ c : Quad, (∃ s : Quad, roundFwd d s k = c) ↔ c.w1 ^^^ c.w2 = d.w1 ^^^ d.w2) ∧
    (Set.range fun s : Quad => roundFwd d s k).ncard = 2 ^ 192

/-- 40_round_transform.md R108 (b): two states have one `Diffuse` exactly when they differ by one word `e` in
words 0 and 3; every output of the forward round has exactly `2^64` preimages. -/
def Obligations.ForwardRoundOutputsHave2To64Preimages : Prop :=
  (∀ u u' : Quad, diffuse u = diffuse u' ↔ ∃ e : Word, u' = ⟨u.w0 ^^^ e, u.w1, u.w2, u.w3 ^^^ e⟩) ∧
  (∀ d s k : Quad, {s' : Quad | roundFwd d s' k = roundFwd d s k}.ncard = 2 ^ 64)

/-- 40_round_transform.md R108 (c), (d): the concrete collision, and for no key and constants does any function
undo the forward round. -/
def Obligations.ForwardRoundHasNoInverse : Prop :=
  (∀ d : Quad, roundFwd d ⟨0, 0, 0, 0⟩ ⟨0, 0, 0, 0⟩ = d ∧
    roundFwd d ⟨0xFFF8000000000001, 0x0008000000000000, 0, 0⟩ ⟨0, 0, 0, 0⟩ = d) ∧
  (∀ d k : Quad, ¬ ∃ g : Quad → Quad, ∀ s : Quad, g (roundFwd d s k) = s)

/-- 40_round_transform.md R112: (a) the inverse-direction round is a bijection; (b) what it makes of a forward
round, exactly when that is the state again, and that this is so for `2^128` states; (c) the same the other way round. -/
def Obligations.WhatTheTwoRoundsDoToEachOther : Prop :=
  ∀ d k : Quad,
    Function.Bijective (fun s : Quad => roundInv d s k) ∧
    (∀ s : Quad,
      let u := preMix s k
      let w := u.w0 ^^^ u.w1 ^^^ u.w2 ^^^ u.w3
      invDiffuse (diffuse u) = ⟨w, u.w1, u.w2, w⟩ ∧
      roundInv d (roundFwd d s k) k = invPreMix ⟨w, u.w1, u.w2, w⟩ k ∧
      (roundInv d (roundFwd d s k) k = s ↔ u.w0 = u.w3 ∧ u.w3 = u.w1 ^^^ u.w2)) ∧
    {s : Quad | roundInv d (roundFwd d s k) k = s}.ncard = 2 ^ 128 ∧
    (∀ c : Quad,
      let z := quadXor c d
      diffuse (invDiffuse z) = ⟨z.w0 ^^^ z.w2, z.w1 ^^^ z.w2, z.w1 ^^^ z.w2, z.w1 ^^^ z.w3⟩ ∧
      roundFwd d (roundInv d c k) k =
        ⟨z.w0 ^^^ z.w2 ^^^ d.w0, z.w1 ^^^ z.w2 ^^^ d.w1, z.w1 ^^^ z.w2 ^^^ d.w2, z.w1 ^^^ z.w3 ^^^ d.w3⟩ ∧
      (roundFwd d (roundInv d c k) k = c ↔ c.w1 = d.w1 ∧ c.w2 = d.w2))

/-- 40_round_transform.md R110: RNDE, its frame and its corner cases. -/
def Obligations.RndeIsOneForwardRound : Prop :=
  decode 0x0000000000000020 = .ok .rnde ∧
  (∀ s : State, exec .rnde s = .next { s with dout := roundFwd Config.D s.din s.rkin }) ∧
  (∀ s t : State, exec .rnde s = .next t → t.dout.w1 ^^^ t.dout.w2 = Config.D.w1 ^^^ Config.D.w2) ∧
  (∀ s : State, s.din = ⟨0, 0, 0, 0⟩ → s.rkin = ⟨0, 0, 0, 0⟩ → exec .rnde s = .next { s with dout := Config.D }) ∧
  (∀ s : State, s.din = ⟨1, 0, 0, 0⟩ → s.rkin = ⟨0, 0, 0, 0⟩ → exec .rnde s =
    .next { s with dout := ⟨0x81 ^^^ Config.D.w0, Config.D.w1, Config.D.w2, 1 ^^^ Config.D.w3⟩ })

/-- 40_round_transform.md R111: RNDD, its frame and its corner cases. -/
def Obligations.RnddIsOneInverseDirectionRound : Prop :=
  decode 0x0000000000000021 = .ok .rndd ∧
  (∀ s : State, exec .rndd s = .next { s with dout := roundInv Config.D s.din s.rkin }) ∧
  (∀ s : State, s.din = Config.D → s.rkin = ⟨0, 0, 0, 0⟩ →
    exec .rndd s = .next { s with dout := ⟨0, 0, 0, 0⟩ }) ∧
  (∀ s : State, s.din = ⟨0x81 ^^^ Config.D.w0, Config.D.w1, Config.D.w2, 1 ^^^ Config.D.w3⟩ →
    s.rkin = ⟨0, 0, 0, 0⟩ →
    exec .rndd s = .next { s with dout := ⟨0xFBF8000000000080, 0x0408000000000000, 0, 0⟩ })

/-! ## The key schedule -/

/-- 41_key_schedule.md R132, R133: KEYSETUP replaces all 96 words of `RK`, sets `KEYED`, zeroes `KEY` and changes
nothing else; entry `r` is the first four little-endian words of `Hash(K || r as 8 bytes)`. A second KEYSETUP
without a write of `KEY` derives the schedule of the all-zero key (70_reset_and_hazards.md R237). -/
def Obligations.KeysetupDerivesTheSchedule : Prop :=
  decode 0x0000000000000001 = .ok .keysetup ∧
  ∀ s : State, ∃ t : State,
    exec .keysetup s = .next t ∧
    t = { s with rk := t.rk, keyed := true, key := Vector.replicate 8 0 } ∧
    (∀ r : Fin 24, t.rk[r] = words4
      (Config.hash (s.key.toList.flatMap le64 ++ [BitVec.ofNat 8 r, 0, 0, 0, 0, 0, 0, 0])).toList) ∧
    exec .keysetup t = .next { t with rk := keySchedule Config.hash (List.replicate 64 0) }

/-- 41_key_schedule.md R132: the schedule uses the hash on the 24 messages `K || le64(i)` alone, and of each
answer bytes 0 to 31 alone. -/
def Obligations.ScheduleIgnoresDigestBytes32To63 : Prop :=
  ∀ (h h' : List Byte → Config.Digest) (k : List Byte),
    (∀ i < 24, (h (hashMessage k i)).toList.take 32 = (h' (hashMessage k i)).toList.take 32) →
    keySchedule h k = keySchedule h' k

/-! ## The block engine -/

/-- 42_block_engine.md R151: `EncryptState` and `DecryptState` as the spec lists them. -/
def Obligations.BlockFunctionsFollowTheListing : Prop :=
  ∀ (d : Quad) (rk : Vector Quad 24) (iv s : Quad),
    encryptState d rk false iv s = rk.toList.foldl (roundFwd d) s ∧
    encryptState d rk true iv s = rk.toList.foldl (roundFwd d)
      ⟨s.w0 ^^^ iv.w0, s.w1 ^^^ iv.w1, s.w2 ^^^ iv.w2, s.w3 ^^^ iv.w3⟩ ∧
    decryptState d rk false iv s = rk.toList.reverse.foldl (roundInv d) s ∧
    (let x := rk.toList.reverse.foldl (roundInv d) s
     decryptState d rk true iv s = ⟨x.w0 ^^^ iv.w0, x.w1 ^^^ iv.w1, x.w2 ^^^ iv.w2, x.w3 ^^^ iv.w3⟩)

/-- 42_block_engine.md R152: ENC writes `DOUT` alone; `DOUT[1] ^ DOUT[2] = D[1] ^ D[2]` after it; it is not
injective in `DIN`. -/
def Obligations.EncEncryptsTheBlock : Prop :=
  decode 0x0000000000000010 = .ok .enc ∧
  (∀ s : State, ∃ c : Quad, exec .enc s = .next { s with dout := c } ∧
    c = encryptState Config.D s.rk s.ivv s.iv s.din ∧ c.w1 ^^^ c.w2 = Config.D.w1 ^^^ Config.D.w2) ∧
  (∀ (d : Quad) (rk : Vector Quad 24) (ivv : Bool) (iv : Quad),
    ¬ Function.Injective fun s : Quad => encryptState d rk ivv iv s)

/-- 42_block_engine.md R153: DEC writes `DOUT` alone; for a fixed context it is a bijection from `DIN` to `DOUT`;
in every context there is a block whose ENC it does not undo. -/
def Obligations.DecIsABijectionOfTheBlock : Prop :=
  decode 0x0000000000000011 = .ok .dec ∧
  (∀ s : State, exec .dec s = .next { s with dout := decryptState Config.D s.rk s.ivv s.iv s.din }) ∧
  (∀ (d : Quad) (rk : Vector Quad 24) (ivv : Bool) (iv : Quad),
    (Function.Bijective fun s : Quad => decryptState d rk ivv iv s) ∧
    ∃ s : Quad, decryptState d rk ivv iv (encryptState d rk ivv iv s) ≠ s)

/-- 42_block_engine.md R155, R156: IVSET makes `DIN` the IV, IVCLR makes the IV absent; each changes nothing
else and runs whatever `KEYED` and `IVV` hold. -/
def Obligations.IvsetAndIvclrSetAndClearTheIv : Prop :=
  decode 0x0000000000000002 = .ok .ivset ∧ decode 0x0000000000000003 = .ok .ivclr ∧
  (∀ s : State, exec .ivset s = .next { s with iv := s.din, ivv := true }) ∧
  (∀ s : State, exec .ivclr s = .next { s with iv := ⟨0, 0, 0, 0⟩, ivv := false })

/-- 42_block_engine.md R157 (c), R154: the IV is XORed once at the boundary and cancels out of both block
functions; a present all-zero IV gives what no IV gives, whatever `IV` holds while absent. -/
def Obligations.IvMasksOnlyTheBoundary : Prop :=
  ∀ (d : Quad) (rk : Vector Quad 24) (iv x : Quad),
    decryptState d rk true iv x = quadXor (decryptState d rk false iv x) iv ∧
    encryptState d rk true iv x = encryptState d rk false iv (quadXor x iv) ∧
    encryptState d rk true ⟨0, 0, 0, 0⟩ x = encryptState d rk false iv x ∧
    decryptState d rk true ⟨0, 0, 0, 0⟩ x = decryptState d rk false iv x

/-- 42_block_engine.md R157: every output of ENC has at least `2^64` inputs, so no function recovers the input;
43_adaptive_mode.md R182: the same of the extra-rounds path. -/
def Obligations.BlockEncryptionIsNotInvertible : Prop :=
  ∀ (d : Quad) (rk : Vector Quad 24) (ivv : Bool) (iv : Quad),
    (∀ s : Quad, 2 ^ 64 ≤ {s' : Quad | encryptState d rk ivv iv s' = encryptState d rk ivv iv s}.ncard) ∧
    (¬ ∃ g : Quad → Quad, ∀ s : Quad, g (encryptState d rk ivv iv s) = s) ∧
    (¬ ∃ g : Quad → Quad, ∀ s : Quad, g (extraEncryptState d rk ivv iv s) = s)

/-- 42_block_engine.md R158, 10_state.md R29: no command reads `KEYED`. Every command answers the same whatever
`KEYED` holds, and all but KEYSETUP leave it. -/
def Obligations.NoCommandReadsKeyed : Prop :=
  ∀ (i : Instr) (s : State) (b : Bool), ∃ t : State, exec i s = .next t ∧
    exec i { s with keyed := b } = .next { t with keyed := if i = .keysetup then true else b }

/-! ## Adaptive mode -/

/-- 43_adaptive_mode.md R171: the counts of a 32-byte block sum to 32; at least one and at most 32 are non-zero. -/
def Obligations.HistogramCountsSumTo32 : Prop :=
  ∀ block : List Byte, block.length = 32 →
    (histogram block).length = 256 ∧
    (∀ v : Byte, (histogram block)[v.toNat]? = some (block.count v)) ∧
    (histogram block).sum = 32 ∧
    1 ≤ (positiveCounts block).length ∧ (positiveCounts block).length ≤ 32

/-- 43_adaptive_mode.md R173: the closed forms of the score and the bounds of `P` and `S`. -/
def Obligations.EntropyClosedForms : Prop :=
  ∀ block : List Byte, block.length = 32 →
    entropy block = 5 - countLogSum block / 32 ∧
    normalizedEntropy block = (160 - countLogSum block) / 256 ∧
    Real.logb 2 (countProduct block) = countLogSum block ∧
    1 ≤ countProduct block ∧ countProduct block ≤ 2 ^ 160 ∧
    0 ≤ countLogSum block ∧ countLogSum block ≤ 160

/-- 43_adaptive_mode.md R174, R175: the score lies in 0 to 5/8, is 0 exactly when all 32 bytes are equal and 5/8
exactly when all 32 are distinct. -/
def Obligations.EntropyRangeAndItsEnds : Prop :=
  ∀ block : List Byte, block.length = 32 →
    0 ≤ normalizedEntropy block ∧ normalizedEntropy block ≤ 5 / 8 ∧
    (normalizedEntropy block = 0 ↔ ∃ v : Byte, block = List.replicate 32 v) ∧
    (normalizedEntropy block = 5 / 8 ↔ block.Nodup)

/-- 43_adaptive_mode.md R176: the machine's integer selector is the strict comparison of exact reals
`Hn(B) > T`, and the integer form the rule gives. -/
def Obligations.SelectorIsTheExactRealComparison : Prop :=
  ∀ (block : List Byte) (thresh : Word), block.length = 32 →
    (extraSelected block thresh = true ↔ normalizedEntropy block > thresholdValue thresh) ∧
    (extraSelected block thresh = true ↔
      thresh.toInt < 40960 ∧ countProduct block ^ 256 < 2 ^ (40960 - thresh.toInt).toNat)

/-- 43_adaptive_mode.md R178: the four regions of the threshold. -/
def Obligations.ThresholdRegions : Prop :=
  (∀ (thresh : Word), 0xA000 ≤ thresh.toNat → thresh.toNat ≤ 0x7FFFFFFFFFFFFFFF →
    (∀ block : List Byte, block.length = 32 → extraSelected block thresh = false) ∧
    (∀ s : State, s.thresh = thresh → ∃ t : State, exec .enc s = .next t ∧
      exec .enca s = .next { t with xmode := false })) ∧
  (0xA000 ≤ State.reset.thresh.toNat ∧ State.reset.thresh.toNat ≤ 0x7FFFFFFFFFFFFFFF) ∧
  (∀ (thresh : Word) (block : List Byte), 0x8000000000000000 ≤ thresh.toNat → block.length = 32 →
    extraSelected block thresh = true) ∧
  (∀ block : List Byte, block.length = 32 →
    (extraSelected block 0 = true ↔ ¬ ∃ v : Byte, block = List.replicate 32 v)) ∧
  (∀ thresh : Word, 0 < thresh.toNat → thresh.toNat < 40960 →
    (∃ block : List Byte, block.length = 32 ∧ extraSelected block thresh = true) ∧
    (∃ block : List Byte, block.length = 32 ∧ extraSelected block thresh = false))

/-- 10_state.md R30: `THRESH` is read as a two's-complement number of `2^-16`; the reset value is 45875/65536. -/
def Obligations.ThresholdIsSignedFixedPoint : Prop :=
  (∀ v : Word, thresholdValue v = (v.toInt : ℝ) / 65536 ∧
    -(2 ^ 47 : ℝ) ≤ thresholdValue v ∧ thresholdValue v < 2 ^ 47) ∧
  thresholdValue State.reset.thresh = 45875 / 65536

/-- 43_adaptive_mode.md R177: ENCA writes `DOUT` and `XMODE` alone: 48 rounds and 1 where the score of the input
block exceeds the threshold, else what ENC computes and 0. -/
def Obligations.EncaSelectsItsPathByEntropy : Prop :=
  decode 0x0000000000000012 = .ok .enca ∧
  ∀ s : State,
    (normalizedEntropy (bytes32 s.din) > thresholdValue s.thresh → exec .enca s =
      .next { s with dout := extraEncryptState Config.D s.rk s.ivv s.iv s.din, xmode := true }) ∧
    (¬ normalizedEntropy (bytes32 s.din) > thresholdValue s.thresh → exec .enca s =
      .next { s with dout := encryptState Config.D s.rk s.ivv s.iv s.din, xmode := false })

/-- 43_adaptive_mode.md R181: DECX writes `DOUT` alone; for a fixed context it is a bijection; in every context
there is a block whose extra-rounds encryption it does not undo; without an IV it is two DECs with `DOUT` copied
to `DIN` between them. -/
def Obligations.DecxIsTheExtraRoundsDecryptDirection : Prop :=
  decode 0x0000000000000013 = .ok .decx ∧
  (∀ s : State, exec .decx s = .next { s with dout := extraDecryptState Config.D s.rk s.ivv s.iv s.din }) ∧
  (∀ (d : Quad) (rk : Vector Quad 24) (ivv : Bool) (iv : Quad),
    (Function.Bijective fun s : Quad => extraDecryptState d rk ivv iv s) ∧
    ∃ s : Quad, extraDecryptState d rk ivv iv (extraEncryptState d rk ivv iv s) ≠ s) ∧
  (∀ s : State, s.ivv = false → ∃ t u : State, exec .dec s = .next t ∧
    exec .dec { t with din := t.dout } = .next u ∧ exec .decx s = .next { s with dout := u.dout })

/-- 43_adaptive_mode.md R179, R180: the extra-rounds functions use the schedule twice over, in order and
reversed, with the IV once; without an IV the encryption is the standard one applied twice. -/
def Obligations.ExtraRoundsFollowTheListing : Prop :=
  ∀ (d : Quad) (rk : Vector Quad 24) (iv s : Quad),
    (∀ ivv : Bool, extraEncryptState d rk ivv iv s =
      (rk.toList ++ rk.toList).foldl (roundFwd d) (if ivv then quadXor s iv else s)) ∧
    (let x := (rk.toList.reverse ++ rk.toList.reverse).foldl (roundInv d) s
     ∀ ivv : Bool, extraDecryptState d rk ivv iv s = if ivv then quadXor x iv else x) ∧
    extraEncryptState d rk false iv s = encryptState d rk false iv (encryptState d rk false iv s)

/-! ## Whole-machine rules -/

/-- 10_state.md R39, the `w` cells: what each command may write. A register a command does not write is
unchanged, `DIN`, `RKIN` and `THRESH` by every command. -/
def Obligations.CommandsWriteOnlyTheirRegisters : Prop :=
  ∀ (i : Instr) (s : State), ∃ t : State, exec i s = .next t ∧
    t.din = s.din ∧ t.rkin = s.rkin ∧ t.thresh = s.thresh ∧ t.err = s.err ∧ t.errCode = s.errCode ∧
    (i ≠ .keysetup → t.rk = s.rk ∧ t.keyed = s.keyed ∧ t.key = s.key) ∧
    (i ≠ .ivset → i ≠ .ivclr → t.iv = s.iv ∧ t.ivv = s.ivv) ∧
    (i = .keysetup ∨ i = .ivset ∨ i = .ivclr → t.dout = s.dout) ∧
    (i ≠ .enca → t.xmode = s.xmode)

/-- 10_state.md R39, the `r` cells of the data commands: `DOUT` and `XMODE` after a data command depend on the
registers the table marks `r` alone, whatever else the two states hold. -/
def Obligations.DataCommandsReadOnlyTheirRegisters : Prop :=
  ∀ (i : Instr) (s s' t t' : State), exec i s = .next t → exec i s' = .next t' → s.din = s'.din →
    (i = .rnde ∨ i = .rndd → s.rkin = s'.rkin → t.dout = t'.dout) ∧
    (i = .enc ∨ i = .dec ∨ i = .decx → s.rk = s'.rk → s.iv = s'.iv → s.ivv = s'.ivv → t.dout = t'.dout) ∧
    (i = .enca → s.rk = s'.rk → s.iv = s'.iv → s.ivv = s'.ivv → s.thresh = s'.thresh →
      t.dout = t'.dout ∧ t.xmode = t'.xmode)

/-- 10_state.md R23, R27, R28, R33, 70_reset_and_hazards.md R238: which events change `RK`, `KEYED`, the IV, `DOUT`
and `XMODE`, over every step of the machine. -/
def Obligations.ContextAndOutputChangeOnlyByTheirCommands : Prop :=
  ∀ (s t : State) (e : PortEvent) (rest : List PortEvent), s.pending = e :: rest → e ≠ .reset →
    step s = .next t →
    (e ≠ .write 0x00 (encode .keysetup) → t.rk = s.rk ∧ t.keyed = s.keyed) ∧
    (e ≠ .write 0x00 (encode .ivset) → e ≠ .write 0x00 (encode .ivclr) → t.iv = s.iv ∧ t.ivv = s.ivv) ∧
    (e ≠ .write 0x00 (encode .enca) → t.xmode = s.xmode) ∧
    ((∀ i ∈ [Instr.enc, .dec, .enca, .decx, .rnde, .rndd], e ≠ .write 0x00 (encode i)) → t.dout = s.dout)

/-- 10_state.md R22, R24, R25, R30: which events change the operand registers, over every step of the machine. -/
def Obligations.OperandsChangeOnlyByTheirWrites : Prop :=
  ∀ (s t : State) (e : PortEvent) (rest : List PortEvent), s.pending = e :: rest → e ≠ .reset →
    step s = .next t →
    ((∀ (w : Fin 4) (v : Word), e ≠ .write (0x10 + BitVec.ofNat 8 w) v) → t.din = s.din) ∧
    ((∀ (w : Fin 4) (v : Word), e ≠ .write (0x18 + BitVec.ofNat 8 w) v) → t.rkin = s.rkin) ∧
    ((∀ v : Word, e ≠ .write 0x02 v) → t.thresh = s.thresh) ∧
    ((∀ (i : Fin 8) (v : Word), e ≠ .write (0x08 + BitVec.ofNat 8 i) v) →
      e ≠ .write 0x00 (encode .keysetup) → t.key = s.key)

/-- 60_exceptions.md R207, 41_key_schedule.md R135: the host learns nothing of `KEY` but through KEYSETUP. From two
states that differ in `KEY` alone, any sequence of events without a KEYSETUP gives states that differ in `KEY`
at most, so every answer on the way is the same. -/
def Obligations.KeyIsNotRevealedByThePort : Prop :=
  ∀ (es : List PortEvent) (s : State) (key' : Vector Word 8),
    (∀ e ∈ es, e ≠ .write 0x00 (encode .keysetup)) →
    ∃ (t : State) (key'' : Vector Word 8), performAll es s = .next t ∧
      performAll es { s with key := key' } = .next { t with key := key'' }

/-! ## Host scripts -/

/-- 30_encoding.md R88: what the pseudo-operations do when performed. `LDKEY B` makes the key bytes `B`, `LDBLK B`
makes the block `B`, and the others load the registers their expansions name. -/
def Obligations.PseudoOperationsLoadTheirRegisters : Prop :=
  ∀ s : State,
    (∀ bytes : List Byte, bytes.length = 64 → ∃ key : Vector Word 8, keyBytesOf key = bytes ∧
      performAll (expandLine (.ldkey bytes)) s = .next { s with key := key, response := none }) ∧
    (∀ bytes : List Byte, bytes.length = 32 → ∃ q : Quad, bytes32 q = bytes ∧
      performAll (expandLine (.ldblk bytes)) s = .next { s with din := q, response := none }) ∧
    (∀ q : Quad, performAll (expandLine (.ldblkw q)) s = .next { s with din := q, response := none }) ∧
    (∀ q : Quad, performAll (expandLine (.ldrkw q)) s = .next { s with rkin := q, response := none }) ∧
    (∀ q : Quad, performAll (expandLine (.setivw q)) s =
      .next { s with din := q, iv := q, ivv := true, response := none }) ∧
    (∀ n : Int, performAll (expandLine (.setthr n)) s =
      .next { s with thresh := BitVec.ofInt 64 n, response := none })
end

