-- ==== Sys2Proof/Laws/State.lean ====
section
/-! SUPPORT. One lemma per field per update of State, each true by `rfl` and in the simp set, so that no
later proof unfolds a record update. -/

namespace Sys2Proof.Machine.State

variable (s : State)

@[simp] theorem setRk_rk (v : Vector Quad 24) : (s.setRk v).rk = v := rfl
@[simp] theorem setRk_iv (v : Vector Quad 24) : (s.setRk v).iv = s.iv := rfl
@[simp] theorem setRk_ivv (v : Vector Quad 24) : (s.setRk v).ivv = s.ivv := rfl
@[simp] theorem setRk_keyed (v : Vector Quad 24) : (s.setRk v).keyed = s.keyed := rfl
@[simp] theorem setRk_key (v : Vector Quad 24) : (s.setRk v).key = s.key := rfl
@[simp] theorem setRk_din (v : Vector Quad 24) : (s.setRk v).din = s.din := rfl
@[simp] theorem setRk_dout (v : Vector Quad 24) : (s.setRk v).dout = s.dout := rfl
@[simp] theorem setRk_rkin (v : Vector Quad 24) : (s.setRk v).rkin = s.rkin := rfl
@[simp] theorem setRk_thresh (v : Vector Quad 24) : (s.setRk v).thresh = s.thresh := rfl
@[simp] theorem setRk_xmode (v : Vector Quad 24) : (s.setRk v).xmode = s.xmode := rfl
@[simp] theorem setRk_err (v : Vector Quad 24) : (s.setRk v).err = s.err := rfl
@[simp] theorem setRk_errCode (v : Vector Quad 24) : (s.setRk v).errCode = s.errCode := rfl
@[simp] theorem setRk_pending (v : Vector Quad 24) : (s.setRk v).pending = s.pending := rfl
@[simp] theorem setRk_response (v : Vector Quad 24) : (s.setRk v).response = s.response := rfl

@[simp] theorem setIv_rk (b : Bool) (v : Quad) : (s.setIv b v).rk = s.rk := rfl
@[simp] theorem setIv_iv (b : Bool) (v : Quad) : (s.setIv b v).iv = v := rfl
@[simp] theorem setIv_ivv (b : Bool) (v : Quad) : (s.setIv b v).ivv = b := rfl
@[simp] theorem setIv_keyed (b : Bool) (v : Quad) : (s.setIv b v).keyed = s.keyed := rfl
@[simp] theorem setIv_key (b : Bool) (v : Quad) : (s.setIv b v).key = s.key := rfl
@[simp] theorem setIv_din (b : Bool) (v : Quad) : (s.setIv b v).din = s.din := rfl
@[simp] theorem setIv_dout (b : Bool) (v : Quad) : (s.setIv b v).dout = s.dout := rfl
@[simp] theorem setIv_rkin (b : Bool) (v : Quad) : (s.setIv b v).rkin = s.rkin := rfl
@[simp] theorem setIv_thresh (b : Bool) (v : Quad) : (s.setIv b v).thresh = s.thresh := rfl
@[simp] theorem setIv_xmode (b : Bool) (v : Quad) : (s.setIv b v).xmode = s.xmode := rfl
@[simp] theorem setIv_err (b : Bool) (v : Quad) : (s.setIv b v).err = s.err := rfl
@[simp] theorem setIv_errCode (b : Bool) (v : Quad) : (s.setIv b v).errCode = s.errCode := rfl
@[simp] theorem setIv_pending (b : Bool) (v : Quad) : (s.setIv b v).pending = s.pending := rfl
@[simp] theorem setIv_response (b : Bool) (v : Quad) : (s.setIv b v).response = s.response := rfl

@[simp] theorem setKeyed_rk (b : Bool) : (s.setKeyed b).rk = s.rk := rfl
@[simp] theorem setKeyed_iv (b : Bool) : (s.setKeyed b).iv = s.iv := rfl
@[simp] theorem setKeyed_ivv (b : Bool) : (s.setKeyed b).ivv = s.ivv := rfl
@[simp] theorem setKeyed_keyed (b : Bool) : (s.setKeyed b).keyed = b := rfl
@[simp] theorem setKeyed_key (b : Bool) : (s.setKeyed b).key = s.key := rfl
@[simp] theorem setKeyed_din (b : Bool) : (s.setKeyed b).din = s.din := rfl
@[simp] theorem setKeyed_dout (b : Bool) : (s.setKeyed b).dout = s.dout := rfl
@[simp] theorem setKeyed_rkin (b : Bool) : (s.setKeyed b).rkin = s.rkin := rfl
@[simp] theorem setKeyed_thresh (b : Bool) : (s.setKeyed b).thresh = s.thresh := rfl
@[simp] theorem setKeyed_xmode (b : Bool) : (s.setKeyed b).xmode = s.xmode := rfl
@[simp] theorem setKeyed_err (b : Bool) : (s.setKeyed b).err = s.err := rfl
@[simp] theorem setKeyed_errCode (b : Bool) : (s.setKeyed b).errCode = s.errCode := rfl
@[simp] theorem setKeyed_pending (b : Bool) : (s.setKeyed b).pending = s.pending := rfl
@[simp] theorem setKeyed_response (b : Bool) : (s.setKeyed b).response = s.response := rfl

@[simp] theorem setKey_rk (v : Vector Word 8) : (s.setKey v).rk = s.rk := rfl
@[simp] theorem setKey_iv (v : Vector Word 8) : (s.setKey v).iv = s.iv := rfl
@[simp] theorem setKey_ivv (v : Vector Word 8) : (s.setKey v).ivv = s.ivv := rfl
@[simp] theorem setKey_keyed (v : Vector Word 8) : (s.setKey v).keyed = s.keyed := rfl
@[simp] theorem setKey_key (v : Vector Word 8) : (s.setKey v).key = v := rfl
@[simp] theorem setKey_din (v : Vector Word 8) : (s.setKey v).din = s.din := rfl
@[simp] theorem setKey_dout (v : Vector Word 8) : (s.setKey v).dout = s.dout := rfl
@[simp] theorem setKey_rkin (v : Vector Word 8) : (s.setKey v).rkin = s.rkin := rfl
@[simp] theorem setKey_thresh (v : Vector Word 8) : (s.setKey v).thresh = s.thresh := rfl
@[simp] theorem setKey_xmode (v : Vector Word 8) : (s.setKey v).xmode = s.xmode := rfl
@[simp] theorem setKey_err (v : Vector Word 8) : (s.setKey v).err = s.err := rfl
@[simp] theorem setKey_errCode (v : Vector Word 8) : (s.setKey v).errCode = s.errCode := rfl
@[simp] theorem setKey_pending (v : Vector Word 8) : (s.setKey v).pending = s.pending := rfl
@[simp] theorem setKey_response (v : Vector Word 8) : (s.setKey v).response = s.response := rfl

@[simp] theorem setDin_rk (v : Quad) : (s.setDin v).rk = s.rk := rfl
@[simp] theorem setDin_iv (v : Quad) : (s.setDin v).iv = s.iv := rfl
@[simp] theorem setDin_ivv (v : Quad) : (s.setDin v).ivv = s.ivv := rfl
@[simp] theorem setDin_keyed (v : Quad) : (s.setDin v).keyed = s.keyed := rfl
@[simp] theorem setDin_key (v : Quad) : (s.setDin v).key = s.key := rfl
@[simp] theorem setDin_din (v : Quad) : (s.setDin v).din = v := rfl
@[simp] theorem setDin_dout (v : Quad) : (s.setDin v).dout = s.dout := rfl
@[simp] theorem setDin_rkin (v : Quad) : (s.setDin v).rkin = s.rkin := rfl
@[simp] theorem setDin_thresh (v : Quad) : (s.setDin v).thresh = s.thresh := rfl
@[simp] theorem setDin_xmode (v : Quad) : (s.setDin v).xmode = s.xmode := rfl
@[simp] theorem setDin_err (v : Quad) : (s.setDin v).err = s.err := rfl
@[simp] theorem setDin_errCode (v : Quad) : (s.setDin v).errCode = s.errCode := rfl
@[simp] theorem setDin_pending (v : Quad) : (s.setDin v).pending = s.pending := rfl
@[simp] theorem setDin_response (v : Quad) : (s.setDin v).response = s.response := rfl

@[simp] theorem setDout_rk (v : Quad) : (s.setDout v).rk = s.rk := rfl
@[simp] theorem setDout_iv (v : Quad) : (s.setDout v).iv = s.iv := rfl
@[simp] theorem setDout_ivv (v : Quad) : (s.setDout v).ivv = s.ivv := rfl
@[simp] theorem setDout_keyed (v : Quad) : (s.setDout v).keyed = s.keyed := rfl
@[simp] theorem setDout_key (v : Quad) : (s.setDout v).key = s.key := rfl
@[simp] theorem setDout_din (v : Quad) : (s.setDout v).din = s.din := rfl
@[simp] theorem setDout_dout (v : Quad) : (s.setDout v).dout = v := rfl
@[simp] theorem setDout_rkin (v : Quad) : (s.setDout v).rkin = s.rkin := rfl
@[simp] theorem setDout_thresh (v : Quad) : (s.setDout v).thresh = s.thresh := rfl
@[simp] theorem setDout_xmode (v : Quad) : (s.setDout v).xmode = s.xmode := rfl
@[simp] theorem setDout_err (v : Quad) : (s.setDout v).err = s.err := rfl
@[simp] theorem setDout_errCode (v : Quad) : (s.setDout v).errCode = s.errCode := rfl
@[simp] theorem setDout_pending (v : Quad) : (s.setDout v).pending = s.pending := rfl
@[simp] theorem setDout_response (v : Quad) : (s.setDout v).response = s.response := rfl

@[simp] theorem setRkin_rk (v : Quad) : (s.setRkin v).rk = s.rk := rfl
@[simp] theorem setRkin_iv (v : Quad) : (s.setRkin v).iv = s.iv := rfl
@[simp] theorem setRkin_ivv (v : Quad) : (s.setRkin v).ivv = s.ivv := rfl
@[simp] theorem setRkin_keyed (v : Quad) : (s.setRkin v).keyed = s.keyed := rfl
@[simp] theorem setRkin_key (v : Quad) : (s.setRkin v).key = s.key := rfl
@[simp] theorem setRkin_din (v : Quad) : (s.setRkin v).din = s.din := rfl
@[simp] theorem setRkin_dout (v : Quad) : (s.setRkin v).dout = s.dout := rfl
@[simp] theorem setRkin_rkin (v : Quad) : (s.setRkin v).rkin = v := rfl
@[simp] theorem setRkin_thresh (v : Quad) : (s.setRkin v).thresh = s.thresh := rfl
@[simp] theorem setRkin_xmode (v : Quad) : (s.setRkin v).xmode = s.xmode := rfl
@[simp] theorem setRkin_err (v : Quad) : (s.setRkin v).err = s.err := rfl
@[simp] theorem setRkin_errCode (v : Quad) : (s.setRkin v).errCode = s.errCode := rfl
@[simp] theorem setRkin_pending (v : Quad) : (s.setRkin v).pending = s.pending := rfl
@[simp] theorem setRkin_response (v : Quad) : (s.setRkin v).response = s.response := rfl

@[simp] theorem setThresh_rk (v : Word) : (s.setThresh v).rk = s.rk := rfl
@[simp] theorem setThresh_iv (v : Word) : (s.setThresh v).iv = s.iv := rfl
@[simp] theorem setThresh_ivv (v : Word) : (s.setThresh v).ivv = s.ivv := rfl
@[simp] theorem setThresh_keyed (v : Word) : (s.setThresh v).keyed = s.keyed := rfl
@[simp] theorem setThresh_key (v : Word) : (s.setThresh v).key = s.key := rfl
@[simp] theorem setThresh_din (v : Word) : (s.setThresh v).din = s.din := rfl
@[simp] theorem setThresh_dout (v : Word) : (s.setThresh v).dout = s.dout := rfl
@[simp] theorem setThresh_rkin (v : Word) : (s.setThresh v).rkin = s.rkin := rfl
@[simp] theorem setThresh_thresh (v : Word) : (s.setThresh v).thresh = v := rfl
@[simp] theorem setThresh_xmode (v : Word) : (s.setThresh v).xmode = s.xmode := rfl
@[simp] theorem setThresh_err (v : Word) : (s.setThresh v).err = s.err := rfl
@[simp] theorem setThresh_errCode (v : Word) : (s.setThresh v).errCode = s.errCode := rfl
@[simp] theorem setThresh_pending (v : Word) : (s.setThresh v).pending = s.pending := rfl
@[simp] theorem setThresh_response (v : Word) : (s.setThresh v).response = s.response := rfl

@[simp] theorem setXmode_rk (b : Bool) : (s.setXmode b).rk = s.rk := rfl
@[simp] theorem setXmode_iv (b : Bool) : (s.setXmode b).iv = s.iv := rfl
@[simp] theorem setXmode_ivv (b : Bool) : (s.setXmode b).ivv = s.ivv := rfl
@[simp] theorem setXmode_keyed (b : Bool) : (s.setXmode b).keyed = s.keyed := rfl
@[simp] theorem setXmode_key (b : Bool) : (s.setXmode b).key = s.key := rfl
@[simp] theorem setXmode_din (b : Bool) : (s.setXmode b).din = s.din := rfl
@[simp] theorem setXmode_dout (b : Bool) : (s.setXmode b).dout = s.dout := rfl
@[simp] theorem setXmode_rkin (b : Bool) : (s.setXmode b).rkin = s.rkin := rfl
@[simp] theorem setXmode_thresh (b : Bool) : (s.setXmode b).thresh = s.thresh := rfl
@[simp] theorem setXmode_xmode (b : Bool) : (s.setXmode b).xmode = b := rfl
@[simp] theorem setXmode_err (b : Bool) : (s.setXmode b).err = s.err := rfl
@[simp] theorem setXmode_errCode (b : Bool) : (s.setXmode b).errCode = s.errCode := rfl
@[simp] theorem setXmode_pending (b : Bool) : (s.setXmode b).pending = s.pending := rfl
@[simp] theorem setXmode_response (b : Bool) : (s.setXmode b).response = s.response := rfl

@[simp] theorem setErr_rk (e : Bool) (c : BitVec 4) : (s.setErr e c).rk = s.rk := rfl
@[simp] theorem setErr_iv (e : Bool) (c : BitVec 4) : (s.setErr e c).iv = s.iv := rfl
@[simp] theorem setErr_ivv (e : Bool) (c : BitVec 4) : (s.setErr e c).ivv = s.ivv := rfl
@[simp] theorem setErr_keyed (e : Bool) (c : BitVec 4) : (s.setErr e c).keyed = s.keyed := rfl
@[simp] theorem setErr_key (e : Bool) (c : BitVec 4) : (s.setErr e c).key = s.key := rfl
@[simp] theorem setErr_din (e : Bool) (c : BitVec 4) : (s.setErr e c).din = s.din := rfl
@[simp] theorem setErr_dout (e : Bool) (c : BitVec 4) : (s.setErr e c).dout = s.dout := rfl
@[simp] theorem setErr_rkin (e : Bool) (c : BitVec 4) : (s.setErr e c).rkin = s.rkin := rfl
@[simp] theorem setErr_thresh (e : Bool) (c : BitVec 4) : (s.setErr e c).thresh = s.thresh := rfl
@[simp] theorem setErr_xmode (e : Bool) (c : BitVec 4) : (s.setErr e c).xmode = s.xmode := rfl
@[simp] theorem setErr_err (e : Bool) (c : BitVec 4) : (s.setErr e c).err = e := rfl
@[simp] theorem setErr_errCode (e : Bool) (c : BitVec 4) : (s.setErr e c).errCode = c := rfl
@[simp] theorem setErr_pending (e : Bool) (c : BitVec 4) : (s.setErr e c).pending = s.pending := rfl
@[simp] theorem setErr_response (e : Bool) (c : BitVec 4) : (s.setErr e c).response = s.response := rfl

@[simp] theorem setPending_rk (es : List PortEvent) : (s.setPending es).rk = s.rk := rfl
@[simp] theorem setPending_iv (es : List PortEvent) : (s.setPending es).iv = s.iv := rfl
@[simp] theorem setPending_ivv (es : List PortEvent) : (s.setPending es).ivv = s.ivv := rfl
@[simp] theorem setPending_keyed (es : List PortEvent) : (s.setPending es).keyed = s.keyed := rfl
@[simp] theorem setPending_key (es : List PortEvent) : (s.setPending es).key = s.key := rfl
@[simp] theorem setPending_din (es : List PortEvent) : (s.setPending es).din = s.din := rfl
@[simp] theorem setPending_dout (es : List PortEvent) : (s.setPending es).dout = s.dout := rfl
@[simp] theorem setPending_rkin (es : List PortEvent) : (s.setPending es).rkin = s.rkin := rfl
@[simp] theorem setPending_thresh (es : List PortEvent) : (s.setPending es).thresh = s.thresh := rfl
@[simp] theorem setPending_xmode (es : List PortEvent) : (s.setPending es).xmode = s.xmode := rfl
@[simp] theorem setPending_err (es : List PortEvent) : (s.setPending es).err = s.err := rfl
@[simp] theorem setPending_errCode (es : List PortEvent) : (s.setPending es).errCode = s.errCode := rfl
@[simp] theorem setPending_pending (es : List PortEvent) : (s.setPending es).pending = es := rfl
@[simp] theorem setPending_response (es : List PortEvent) : (s.setPending es).response = s.response := rfl

@[simp] theorem setResponse_rk (a : Option Word) : (s.setResponse a).rk = s.rk := rfl
@[simp] theorem setResponse_iv (a : Option Word) : (s.setResponse a).iv = s.iv := rfl
@[simp] theorem setResponse_ivv (a : Option Word) : (s.setResponse a).ivv = s.ivv := rfl
@[simp] theorem setResponse_keyed (a : Option Word) : (s.setResponse a).keyed = s.keyed := rfl
@[simp] theorem setResponse_key (a : Option Word) : (s.setResponse a).key = s.key := rfl
@[simp] theorem setResponse_din (a : Option Word) : (s.setResponse a).din = s.din := rfl
@[simp] theorem setResponse_dout (a : Option Word) : (s.setResponse a).dout = s.dout := rfl
@[simp] theorem setResponse_rkin (a : Option Word) : (s.setResponse a).rkin = s.rkin := rfl
@[simp] theorem setResponse_thresh (a : Option Word) : (s.setResponse a).thresh = s.thresh := rfl
@[simp] theorem setResponse_xmode (a : Option Word) : (s.setResponse a).xmode = s.xmode := rfl
@[simp] theorem setResponse_err (a : Option Word) : (s.setResponse a).err = s.err := rfl
@[simp] theorem setResponse_errCode (a : Option Word) : (s.setResponse a).errCode = s.errCode := rfl
@[simp] theorem setResponse_pending (a : Option Word) : (s.setResponse a).pending = s.pending := rfl
@[simp] theorem setResponse_response (a : Option Word) : (s.setResponse a).response = a := rfl

end Sys2Proof.Machine.State
end

