-- ==== Sys2Proof/Laws/Exec.lean ====
section
/-! SUPPORT. What each command does, said once: one equation per constructor, and the loop of
forward rounds split at its last iteration. -/

namespace Sys2Proof.Machine

@[simp] theorem exec_keysetup (s : State) :
    exec .keysetup s =
      .next (((s.setRk (keySchedule Config.hash (keyBytesOf s.key))).setKeyed true).setKey
        (Vector.replicate 8 0)) := rfl
@[simp] theorem exec_ivset (s : State) : exec .ivset s = .next (s.setIv true s.din) := rfl
@[simp] theorem exec_ivclr (s : State) : exec .ivclr s = .next (s.setIv false Quad.zero) := rfl
@[simp] theorem exec_enc (s : State) :
    exec .enc s = .next (s.setDout (encryptState Config.D s.rk s.ivv s.iv s.din)) := rfl
@[simp] theorem exec_dec (s : State) :
    exec .dec s = .next (s.setDout (decryptState Config.D s.rk s.ivv s.iv s.din)) := rfl
@[simp] theorem exec_decx (s : State) :
    exec .decx s = .next (s.setDout (extraDecryptState Config.D s.rk s.ivv s.iv s.din)) := rfl
@[simp] theorem exec_rnde (s : State) :
    exec .rnde s = .next (s.setDout (roundFwd Config.D s.din s.rkin)) := rfl
@[simp] theorem exec_rndd (s : State) :
    exec .rndd s = .next (s.setDout (roundInv Config.D s.din s.rkin)) := rfl
@[simp] theorem exec_enca (s : State) :
    exec .enca s = .next ((s.setDout
      (if extraSelected (bytes32 s.din) s.thresh
        then extraEncryptState Config.D s.rk s.ivv s.iv s.din
        else encryptState Config.D s.rk s.ivv s.iv s.din)).setXmode
      (extraSelected (bytes32 s.din) s.thresh)) := rfl

/-- One more forward round is the last one. -/
theorem forwardRounds_succ (d : Quad) (rk : Vector Quad 24) (n : Nat) (s : Quad) :
    forwardRounds d rk (n + 1) s = roundFwd d (forwardRounds d rk n s) (wrappedKey rk n) := by
  simp [forwardRounds, List.range_succ, List.foldl_append]

end Sys2Proof.Machine
end

