-- ==== Sys2Proof/Laws/Operands.lean ====
section
/-! SUPPORT. Bytes and words (00_scope.md R16), an element of a 4-tuple, and the signed reading of a word (R14). -/

namespace Sys2Proof.Machine

@[simp] theorem le64_length (n : Word) : (le64 n).length = 8 := by simp [le64]

@[simp] theorem bytes32_length (q : Quad) : (bytes32 q).length = 32 := by simp [bytes32]

/-- The bytes of a word read back as that word. -/
@[simp] theorem wordLe_le64 (n : Word) : wordLe (le64 n) = n := by
  apply BitVec.eq_of_toNat_eq
  have := n.isLt
  simp only [le64, List.range, List.range.loop, List.map, wordLe]
  simp [Nat.shiftRight_eq_div_pow]
  omega

/-- Eight bytes are the bytes of the word they make. -/
theorem le64_wordLe (bytes : List Byte) (h : bytes.length = 8) : le64 (wordLe bytes) = bytes := by
  match bytes, h with
  | [b0, b1, b2, b3, b4, b5, b6, b7], _ =>
    have := b0.isLt; have := b1.isLt; have := b2.isLt; have := b3.isLt
    have := b4.isLt; have := b5.isLt; have := b6.isLt; have := b7.isLt
    simp only [le64, List.range, List.range.loop, List.map, wordLe, List.cons.injEq, and_true]
    refine ⟨?_, ?_, ?_, ?_, ?_, ?_, ?_, ?_⟩ <;> apply BitVec.eq_of_toNat_eq <;>
      simp [Nat.shiftRight_eq_div_pow] <;> omega

/-- The fixed-point reading is the library's signed reading of the word. -/
theorem sint64_eq_toInt (v : Word) : sint64 v = v.toInt := by
  unfold sint64
  rw [BitVec.toInt_eq_toNat_cond]
  split <;> split <;> omega

end Sys2Proof.Machine
end

