-- ==== Sys2Proof/Laws/Ops.lean ====
section
/-! SUPPORT. The shared register operations, each with one lemma that says everything it can do: the error
action, the register map, reading and writing a register, and `HostRead`. -/

namespace Sys2Proof.Machine

/-- The error action field by field (60_exceptions.md R203). -/
theorem raiseError_eq (c : ErrCause) (s : State) :
    raiseError c s = { s with err := true, errCode := if s.err then s.errCode else causeCode c } := rfl

@[simp] theorem raiseError_err (c : ErrCause) (s : State) : (raiseError c s).err = true := rfl
@[simp] theorem raiseError_errCode (c : ErrCause) (s : State) :
    (raiseError c s).errCode = if s.err then s.errCode else causeCode c := rfl
@[simp] theorem raiseError_rk (c : ErrCause) (s : State) : (raiseError c s).rk = s.rk := rfl
@[simp] theorem raiseError_iv (c : ErrCause) (s : State) : (raiseError c s).iv = s.iv := rfl
@[simp] theorem raiseError_ivv (c : ErrCause) (s : State) : (raiseError c s).ivv = s.ivv := rfl
@[simp] theorem raiseError_keyed (c : ErrCause) (s : State) : (raiseError c s).keyed = s.keyed := rfl
@[simp] theorem raiseError_key (c : ErrCause) (s : State) : (raiseError c s).key = s.key := rfl
@[simp] theorem raiseError_din (c : ErrCause) (s : State) : (raiseError c s).din = s.din := rfl
@[simp] theorem raiseError_dout (c : ErrCause) (s : State) : (raiseError c s).dout = s.dout := rfl
@[simp] theorem raiseError_rkin (c : ErrCause) (s : State) : (raiseError c s).rkin = s.rkin := rfl
@[simp] theorem raiseError_thresh (c : ErrCause) (s : State) : (raiseError c s).thresh = s.thresh := rfl
@[simp] theorem raiseError_xmode (c : ErrCause) (s : State) : (raiseError c s).xmode = s.xmode := rfl
@[simp] theorem raiseError_pending (c : ErrCause) (s : State) : (raiseError c s).pending = s.pending := rfl
@[simp] theorem raiseError_response (c : ErrCause) (s : State) : (raiseError c s).response = s.response := rfl

/-- A cause code is one of 1 to 4 (60_exceptions.md R202). -/
theorem causeCode_range (c : ErrCause) : causeCode c ≠ 0 ∧ (causeCode c).toNat ≤ 4 := by
  cases c <;> decide

/-- A word written to an element is read back from it and no other element changes. -/
theorem quadGet_quadSet (q : Quad) (w x : Fin 4) (v : Word) :
    quadGet (quadSet q w v) x = if x = w then v else quadGet q x := by
  fin_cases w <;> fin_cases x <;> rfl

/-- Writing to a register the host may not write, or to `CMD`, changes nothing. -/
theorem writeReg_of_ro {r : Reg} (h : access r = .ro ∨ r = .cmd) (v : Word) (s : State) :
    writeReg r v s = s := by
  cases r <;> simp [access] at h <;> rfl

/-- Everything `HostRead` can do (20_memory.md R51). -/
theorem hostRead_cases (idx : Index) (s : State) :
    (∃ r, regAt idx = some r ∧ access r ≠ .wo ∧ hostRead idx s = s.setResponse (some (readReg r s))) ∨
    (∃ r, regAt idx = some r ∧ access r = .wo ∧
      hostRead idx s = (raiseError .readWo s).setResponse (some 0)) ∨
    (regAt idx = none ∧ hostRead idx s = (raiseError .unmapped s).setResponse (some 0)) := by
  unfold hostRead
  cases h : regAt idx with
  | none => simp
  | some r => cases ha : access r <;> simp [ha]

end Sys2Proof.Machine
end

