-- ==== Sys2Proof/Laws/PerInstr.lean ====
section
/-! SUPPORT. The family CommandWord: of each command, its word has bits 63:8 zero, some row of the table
selects it, the decoder reads the command from it, and the command is well formed (30_encoding.md R80, R83, R89). -/

namespace Sys2Proof.Laws.CommandWord

def Statement (i : Instr) : Prop :=
  zeroField (encode i) = 0 ∧ WordLegal (encode i) = true ∧ decodeOption (encode i) = some i ∧
    i.WellFormed = true

theorem keysetup : Statement .keysetup := ⟨by decide, by decide, by decide, rfl⟩
theorem ivset : Statement .ivset := ⟨by decide, by decide, by decide, rfl⟩
theorem ivclr : Statement .ivclr := ⟨by decide, by decide, by decide, rfl⟩
theorem enc : Statement .enc := ⟨by decide, by decide, by decide, rfl⟩
theorem dec : Statement .dec := ⟨by decide, by decide, by decide, rfl⟩
theorem enca : Statement .enca := ⟨by decide, by decide, by decide, rfl⟩
theorem decx : Statement .decx := ⟨by decide, by decide, by decide, rfl⟩
theorem rnde : Statement .rnde := ⟨by decide, by decide, by decide, rfl⟩
theorem rndd : Statement .rndd := ⟨by decide, by decide, by decide, rfl⟩

end Sys2Proof.Laws.CommandWord
end

