-- ==== Sys2Proof/Laws/Round.lean ====
section
/-! SUPPORT. The rotations as Lean's own (00_scope.md R15) and the exclusive OR of 4-tuples. -/

namespace Sys2Proof.Machine

/-- `rotl` by an amount below 64 is the library's rotation. -/
theorem rotl_eq_rotateLeft (x : Word) {r : Nat} (h : r < 64) : rotl x r = x.rotateLeft r := by
  rw [BitVec.rotateLeft_def, Nat.mod_eq_of_lt h]
  rfl

/-- `rotr` by an amount below 64 is the library's rotation. -/
theorem rotr_eq_rotateRight (x : Word) {r : Nat} (h : r < 64) : rotr x r = x.rotateRight r := by
  rw [BitVec.rotateRight_def, Nat.mod_eq_of_lt h]
  rfl

@[simp] theorem quadXor_zero (q : Quad) : quadXor q Quad.zero = q := by
  simp [quadXor, Quad.zero]

theorem quadXor_comm (a b : Quad) : quadXor a b = quadXor b a := by
  simp [quadXor, BitVec.xor_comm]

theorem quadXor_assoc (a b c : Quad) : quadXor (quadXor a b) c = quadXor a (quadXor b c) := by
  simp [quadXor, BitVec.xor_assoc]

@[simp] theorem quadXor_self (q : Quad) : quadXor q q = Quad.zero := by
  simp [quadXor, Quad.zero]

end Sys2Proof.Machine
end

