-- ==== Sys2Proof/Laws/Step.lean ====
section
/-! SUPPORT. What `HostWrite`, one event and one step can do, each said once. -/

namespace Sys2Proof.Machine

/-- Everything a write to `CMD` can do (30_encoding.md R82). -/
theorem perform_cases (v : Word) (s : State) :
    (∃ i, decode v = .ok i ∧ perform v s = exec i s) ∨
    (∃ e, decode v = .error e ∧ perform v s = .next (raiseError .illcmd s)) := by
  unfold perform
  cases h : decode v with
  | ok i => simp
  | error e => simp

/-- Everything `HostWrite` can do (20_memory.md R52). -/
theorem hostWrite_cases (idx : Index) (v : Word) (s : State) :
    (regAt idx = some .cmd ∧ hostWrite idx v s = perform v s) ∨
    (∃ r, regAt idx = some r ∧ r ≠ .cmd ∧ access r ≠ .ro ∧ hostWrite idx v s = .next (writeReg r v s)) ∨
    (∃ r, regAt idx = some r ∧ access r = .ro ∧ hostWrite idx v s = .next (raiseError .writeRo s)) ∨
    (regAt idx = none ∧ hostWrite idx v s = .next (raiseError .unmapped s)) := by
  unfold hostWrite
  cases h : regAt idx with
  | none => simp
  | some r => cases r <;> simp [access]

/-- With nothing waiting a step changes nothing. -/
theorem step_of_idle {s : State} (h : s.pending = []) : step s = .next s := by
  simp [step, h]

/-- With an event waiting a step performs it, the rest left waiting. -/
theorem step_of_pending {s : State} {e : PortEvent} {rest : List PortEvent}
    (h : s.pending = e :: rest) : step s = performEvent e (s.setPending rest) := by
  simp [step, h]

/-- Everything a step that answers a next state can have done. -/
theorem step_cases {s t : State} (h : step s = .next t) :
    (s.pending = [] ∧ t = s) ∨
    (∃ e rest, s.pending = e :: rest ∧ performEvent e (s.setPending rest) = .next t) := by
  cases hp : s.pending with
  | nil => rw [step_of_idle hp] at h; simpa [eq_comm] using h
  | cons e rest => rw [step_of_pending hp] at h; exact .inr ⟨e, rest, rfl, h⟩

@[simp] theorem withFetchWord_pending (s : State) (nbits w : Nat) :
    (s.withFetchWord nbits w).pending =
      .write 0x00 (BitVec.ofNat 64 (w % 2 ^ nbits)) :: s.pending := rfl

end Sys2Proof.Machine
end

