-- ==== Sys2Proof/Tests/Slice0.lean ====
section
/-! SUPPORT. Tests with expected results from the spec's own vectors (95_test_vectors.md and
96_more_test_vectors.md, their ids in the docstrings), smoke tests of the checks, and one witness for each
statement with hypotheses. The constants and the hash are open (Config), so a data vector is tested on the
datapath function, which takes them as arguments, at the test instantiations TI-0 and TI-1. -/

namespace Sys2Proof.Tests

open Sys2Proof.Machine

/-! ## Helpers: the test instantiations and named inputs of 95_test_vectors.md section 2 -/

/-- `HashFold`, for messages of at most 128 bytes. -/
def hashFold (m : List Byte) : Config.Digest :=
  Vector.ofFn fun j : Fin 64 => BitVec.ofNat 8 (j.val + (m.getD j 0).toNat + (m.getD (64 + j) 0).toNat)

/-- The constants of TI-1. -/
def ti1 : Quad := ⟨0x0101010101010101, 0x0202020202020202, 0x0404040404040404, 0x0808080808080808⟩

/-- `SEQ` as words. -/
def seq : Quad := ⟨0x0706050403020100, 0x0F0E0D0C0B0A0908, 0x1716151413121110, 0x1F1E1D1C1B1A1918⟩

/-- `SEQ` as bytes. -/
def seqBytes : List Byte := (List.range 32).map (BitVec.ofNat 8)

/-- `ZB`. -/
def zeroBytes : List Byte := List.replicate 32 0

/-- The schedule of `K0` under `HashFold`, as vector K1 gives it. -/
def scheduleK0 : Vector Quad 24 := Vector.ofFn fun r : Fin 24 =>
  ⟨0x0706050403020100 + BitVec.ofNat 64 r, 0x0F0E0D0C0B0A0908, 0x1716151413121110, 0x1F1E1D1C1B1A1918⟩

/-- The schedule of `K1` under `HashFold`, as vector K2 gives it. -/
def scheduleK1 : Vector Quad 24 := Vector.ofFn fun r : Fin 24 =>
  ⟨0x0E0C0A0806040200 + BitVec.ofNat 64 r, 0x1E1C1A1816141210, 0x2E2C2A2826242220, 0x3E3C3A3836343230⟩

/-- The round-key file without a KEYSETUP. -/
def noKey : Vector Quad 24 := Vector.replicate 24 Quad.zero

/-- Operands of vector V6. -/
def v6Din : Quad := ⟨0x0123456789ABCDEF, 0xFEDCBA9876543210, 0x0F1E2D3C4B5A6978, 0x8796A5B4C3D2E1F0⟩
def v6Key : Quad := ⟨0x1111111111111111, 0x2222222222222222, 0x3333333333333333, 0x4444444444444444⟩
def v6After4 : Quad := ⟨0x4B10D21E3D6E4337, 0xEFF06644678FEFCF, 0xEFF06644678FEFCF, 0x1920CCE2E7D5D5C3⟩

/-- Byte `i` is `i`, from `0` to `n - 1`. -/
def countUp (n : Nat) : List Byte := (List.range n).map (BitVec.ofNat 8)

/-- The state after reset with these events presented. -/
def waiting (es : List PortEvent) : State := State.reset.setPending es

/-! ## Encoding -/

/-- The nine words of 30_encoding.md R83, bit 63 first: seven zero bytes and the opcode. -/
theorem test_decode_words :
    decode (0b00000000#8 ++ 0b00000000#8 ++ 0b00000000#8 ++ 0b00000000#8 ++
      0b00000000#8 ++ 0b00000000#8 ++ 0b00000000#8 ++ 0b00000001#8) = .ok .keysetup ∧
    decode 0x0000000000000002 = .ok .ivset ∧ decode 0x0000000000000003 = .ok .ivclr ∧
    decode (0b00000000#8 ++ 0b00000000#8 ++ 0b00000000#8 ++ 0b00000000#8 ++
      0b00000000#8 ++ 0b00000000#8 ++ 0b00000000#8 ++ 0b00010000#8) = .ok .enc ∧
    decode 0x0000000000000011 = .ok .dec ∧ decode 0x0000000000000012 = .ok .enca ∧
    decode 0x0000000000000013 = .ok .decx ∧
    decode (0b00000000#8 ++ 0b00000000#8 ++ 0b00000000#8 ++ 0b00000000#8 ++
      0b00000000#8 ++ 0b00000000#8 ++ 0b00000000#8 ++ 0b00100000#8) = .ok .rnde ∧
    decode 0x0000000000000021 = .ok .rndd := by decide

/-- The words of E1 to E7 are refused, each for its reason. -/
theorem test_decode_refused :
    decode 0x0000000000000000 = .error .unassignedOpcode ∧ decode 0x0000000000000110 = .error .upperBitsSet ∧
    decode 0x8000000000000010 = .error .upperBitsSet ∧ decode 0x0000000000000004 = .error .unassignedOpcode ∧
    decode 0x0000000000000014 = .error .unassignedOpcode ∧ decode 0x0000000000000022 = .error .unassignedOpcode ∧
    decode 0x00000000000000FF = .error .unassignedOpcode := by decide

/-- Opcode bits land in bits 7:0 alone: of the 256 values with bits 63:8 zero, all but nine are refused (R84). -/
theorem test_decode_opcode_map :
    ((List.range 256).filter fun n => (decodeOption (BitVec.ofNat 64 n)).isSome) =
      [0x01, 0x02, 0x03, 0x10, 0x11, 0x12, 0x13, 0x20, 0x21] := by decide +kernel

/-! ## Well-formedness: each check refuses an ill-formed term -/

theorem test_word_illegal :
    WordLegal 0x0000000000000110 = false ∧ WordLegal 0x0000000000000000 = false ∧
    WordLegal 0x0000000000000022 = false ∧ WordLegal 0x0000000000000010 = true := by decide

theorem test_register_out_of_range :
    (RegName.key 8).WellFormed = false ∧ (RegName.din 4).WellFormed = false ∧
    (RegName.dout 4).WellFormed = false ∧ (RegName.rkin 4).WellFormed = false ∧
    (RegName.iv 4).WellFormed = false ∧ (RegName.rk 24 0).WellFormed = false ∧
    (RegName.rk 0 4).WellFormed = false ∧ (RegName.literal 256).WellFormed = false ∧
    (RegName.rk 23 3).WellFormed = true ∧ (RegName.literal 255).WellFormed = true := by decide

theorem test_line_ill_formed :
    (ScriptLine.wr (.key 8) 0).WellFormed = false ∧ (ScriptLine.rd (.rk 24 0) none).WellFormed = false ∧
    (ScriptLine.ldkey (List.replicate 63 0)).WellFormed = false ∧
    (ScriptLine.ldblk (List.replicate 33 0)).WellFormed = false ∧
    (ScriptLine.ldkey (List.replicate 64 0)).WellFormed = true := by decide

/-! ## Word operations: A1 to A22 -/

/-- A2 to A9. -/
theorem test_rotations :
    rotl 0x8000000000000000 13 = 0x0000000000001000 ∧ rotl 0x0123456789ABCDEF 13 = 0x68ACF13579BDE024 ∧
    rotl 0x0123456789ABCDEF 37 = 0x3579BDE02468ACF1 ∧ rotl 0x0123456789ABCDEF 51 = 0x6F78091A2B3C4D5E ∧
    rotl 0x0123456789ABCDEF 7 = 0x91A2B3C4D5E6F780 ∧ rotr 0x0123456789ABCDEF 7 = 0xDE02468ACF13579B ∧
    rotr 0x0000000000000001 13 = 0x0008000000000000 := by decide

/-- A12, A15, A16, A19. -/
theorem test_add_sub_wrap :
    quadAdd ⟨0xFFFFFFFFFFFFFFFF, 0x123456789ABCDEF0, 0, 0⟩ ⟨1, 0xFEDCBA9876543210, 0, 0⟩ =
      ⟨0, 0x1111111111111100, 0, 0⟩ ∧
    quadSub ⟨0, 0x123456789ABCDEF0, 0, 0⟩ ⟨1, 0xFEDCBA9876543210, 0, 0⟩ =
      ⟨0xFFFFFFFFFFFFFFFF, 0x13579BE02468ACE0, 0, 0⟩ := by decide

/-- A20, A21, and the words of `SEQ`. -/
theorem test_bytes_words :
    le64 0x0123456789ABCDEF = [0xEF, 0xCD, 0xAB, 0x89, 0x67, 0x45, 0x23, 0x01] ∧
    wordLe [0, 1, 2, 3, 4, 5, 6, 7] = 0x0706050403020100 ∧ words4 seqBytes = seq ∧
    bytes32 seq = seqBytes := by decide

/-! ## RNDE and RNDD -/

/-- V6: "after 4", and `DOUT` for every `D`. -/
theorem test_rnde_v6 (s : State) (h : s.din = v6Din) (hk : s.rkin = v6Key) :
    exec .rnde s = .next (s.setDout (quadXor v6After4 Config.D)) := by
  have e : diffuse (preMix v6Din v6Key) = v6After4 := by decide
  rw [exec_rnde, h, hk, roundFwd, e]

/-- V4 at TI-1: every addition wraps. -/
theorem test_rnde_v4 :
    roundFwd ti1 ⟨-1, -1, -1, -1⟩ ⟨-1, -1, -1, -1⟩ =
      ⟨0x0119010100111F7E, 0x021A020203020202, 0x041C040405040404, 0x08100808090817F7⟩ := by decide

/-- W5 at TI-1. -/
theorem test_rndd_w5 :
    roundInv ti1 ⟨0x4A11D31F3C6F4236, 0xEDF26446658DEDCD, 0xEBF46240638BEBCB, 0x1128C4EAEFDDDDCB⟩ v6Key =
      ⟨0x3BFCBC86E7F94422, 0x4E9088FEA20801E6, 0x96C3F11E5B002D59, 0xFFF0E1D2B42D1E0F⟩ := by decide

/-- W8: an input outside the image of RNDE. -/
theorem test_rndd_w8 :
    roundInv Quad.zero ⟨0, 1, 0, 0⟩ Quad.zero =
      ⟨0xFFF00FFFFFFFE002, 0x000FEFFFFFFFFFFF, 0xFDFFFEFFF8100000, 0x0000010007F00000⟩ := by decide

/-! ## KEYSETUP -/

/-- K2: the entries of the schedule of `K1` for rounds 0 and 23. -/
theorem test_keysetup_k2 :
    roundKeyOf (hashFold (hashMessage (countUp 64) 0)) =
      ⟨0x0E0C0A0806040200, 0x1E1C1A1816141210, 0x2E2C2A2826242220, 0x3E3C3A3836343230⟩ ∧
    roundKeyOf (hashFold (hashMessage (countUp 64) 23)) =
      ⟨0x0E0C0A0806040217, 0x1E1C1A1816141210, 0x2E2C2A2826242220, 0x3E3C3A3836343230⟩ := by decide +kernel

/-- E28 and K5: KEYSETUP straight after reset sets `KEYED`; E18's key word is consumed by it. -/
theorem test_keysetup_status :
    scriptMeets [.command .keysetup, .rd .status (some 0x1)] State.reset = true ∧
    ∀ t, exec .keysetup (State.reset.setKey (Vector.replicate 8 0xDEADBEEF)) = .next t →
      t.key = Vector.replicate 8 0 := by
  refine ⟨by decide +kernel, ?_⟩
  rintro _ ⟨⟩
  rfl

/-! ## ENC, DEC, IVSET, IVCLR -/

/-- B3 at TI-1: an IV present. -/
theorem test_enc_b3 :
    encryptState ti1 scheduleK0 true ⟨1, 2, 3, 4⟩ Quad.zero =
      ⟨0x575AC2C61F400418, 0xF8DF9C3555B2D5D8, 0xFED99A3353B4D3DE, 0x619AA76DDA2F5956⟩ := by decide +kernel

/-- B5 at TI-1. -/
theorem test_enc_b5 :
    encryptState ti1 scheduleK1 false Quad.zero seq =
      ⟨0x2746CB12D51CAC26, 0x2D7A0F3703AA99E0, 0x2B7C093105AC9FE6, 0x8357320CD96B26C3⟩ := by decide +kernel

/-- B4 at TI-1: DEC of B1's output, an IV present. -/
theorem test_dec_b4 :
    decryptState ti1 scheduleK0 true ⟨1, 2, 3, 4⟩
        ⟨0x43371F08E10E7550, 0xA4BCC791F6254E2C, 0xA2BAC197F023482A, 0x96815558D4A24E5F⟩ =
      ⟨0x9B5E14B38888D899, 0x1C15368D65C62CA0, 0x5AC5EA04105476FE, 0x23214616CA793090⟩ := by decide +kernel

/-- U3 at TI-1: an unkeyed DEC. -/
theorem test_dec_u3 :
    decryptState ti1 noKey false Quad.zero Quad.zero =
      ⟨0x4ED1FFE28A36B5F8, 0x56B38FCF698508C2, 0xD8D5225EB7BBBFEA, 0xD59CAF525A7A56DC⟩ := by decide +kernel

/-- The IVSET and IVCLR vectors of 95_test_vectors.md section 5. -/
theorem test_ivset_ivclr :
    scriptMeets
      [.setivw ⟨1, 2, 3, 4⟩, .rd (.iv 0) (some 1), .rd (.iv 3) (some 4), .rd .status (some 0x2),
       .rd (.din 2) (some 3), .setivw ⟨5, 6, 7, 8⟩, .rd (.iv 1) (some 6), .command .ivclr,
       .rd (.iv 1) (some 0), .rd .status (some 0x0), .command .ivclr, .rd .status (some 0x0)]
      State.reset = true := by decide +kernel

/-! ## ENCA and DECX -/

/-- S1 to S4 and S6 to S9. -/
theorem test_enca_selector :
    [extraSelected zeroBytes 0xB333, extraSelected zeroBytes 0, extraSelected zeroBytes (-1),
     extraSelected zeroBytes 0x8000000000000000, extraSelected seqBytes 0xA000, extraSelected seqBytes 0x9FFF,
     extraSelected seqBytes 0, extraSelected seqBytes 0x7FFFFFFFFFFFFFFF] =
    [false, false, true, true, false, true, true, false] := by decide +kernel

/-- S14 and S15 (block H5), S16 and S17 (block H6): scores that are no multiple of the threshold's unit. -/
theorem test_enca_selector_inexact :
    [extraSelected (List.replicate 31 0 ++ [1]) 0x66C, extraSelected (List.replicate 31 0 ++ [1]) 0x66B,
     extraSelected ([0, 0] ++ countUp 30) 0x9B3F, extraSelected ([0, 0] ++ countUp 30) 0x9B3E] =
    [false, true, false, true] := by decide +kernel

/-- X4 at TI-1, its 48 rounds with an IV. -/
theorem test_extra_x4 :
    extraEncryptState ti1 scheduleK1 true ⟨1, 2, 3, 4⟩ seq =
      ⟨0x19A4B784D0F50A60, 0xE754339ECFFF2541, 0xE1523598C9F92347, 0x9E532E9B182BC03D⟩ := by decide +kernel

/-- X5 at TI-1: DECX of X4's output. -/
theorem test_decx_x5 :
    extraDecryptState ti1 scheduleK1 true ⟨1, 2, 3, 4⟩
        ⟨0x19A4B784D0F50A60, 0xE754339ECFFF2541, 0xE1523598C9F92347, 0x9E532E9B182BC03D⟩ =
      ⟨0x642ADDA43DA4D8F8, 0xCBB3DA13F54A785E, 0xF95A1D82FEA3B2C1, 0x6CC6239A03C3F757⟩ := by decide +kernel

/-- X6 at TI-1. -/
theorem test_decx_x6 :
    extraDecryptState ti1 scheduleK1 false Quad.zero Quad.zero =
      ⟨0x584CD0CA0E9C1DCB, 0x927F6A61C5904DAA, 0x1273FD0472C28352, 0x5F7719D9D5BF5E6A⟩ := by decide +kernel

/-! ## The port: E1 to E27 -/

/-- E1, E2, E8 to E11: illegal words and unmapped indices, then `RESET`. -/
theorem test_errors_word_and_index :
    scriptMeets [.wr .cmd 0x110, .rd .status (some 0x18), .rd (.dout 0) (some 0), .reset,
      .rd .status (some 0), .rd (.literal 0x03) (some 0), .rd .status (some 0x28), .reset,
      .wr (.literal 0x07) 0x1234, .rd .status (some 0x28), .reset,
      .rd (.literal 0x80) (some 0), .rd .status (some 0x28), .reset,
      .wr (.literal 0xFF) 1, .rd .status (some 0x28), .reset, .rd .status (some 0)] State.reset = true := by
  decide +kernel

/-- E12 to E19: the access rights. -/
theorem test_errors_access :
    scriptMeets [.wr .status (-1), .rd .status (some 0x38), .reset,
      .wr (.dout 0) 5, .rd (.dout 0) (some 0), .rd .status (some 0x38), .reset,
      .wr (.iv 0) 5, .rd (.iv 0) (some 0), .rd .status (some 0x38), .reset,
      .wr (.rk 23 3) 5, .rd (.rk 23 3) (some 0), .rd .status (some 0x38), .reset,
      .rd .cmd (some 0), .rd .status (some 0x48), .reset,
      .wr (.key 0) 0xDEADBEEF, .rd (.key 0) (some 0), .rd .status (some 0x48), .reset,
      .rd (.key 7) (some 0), .rd .status (some 0x48)] State.reset = true := by decide +kernel

/-- E20 to E26: the first cause is kept, the port goes on, and the readable registers read without an error. -/
theorem test_port_goes_on :
    scriptMeets [.rd (.key 0) (some 0), .wr .cmd 0, .rd (.literal 0x80) (some 0), .rd .status (some 0x48),
      .wr (.din 0) 7, .rd (.din 0) (some 7), .rd .status (some 0x48), .reset,
      .wr .thresh 0x1234, .rd .thresh (some 0x1234), .wr (.rkin 3) 9, .rd (.rkin 3) (some 9),
      .rd (.iv 3) (some 0), .rd (.rk 23 3) (some 0), .rd (.dout 3) (some 0), .rd .status (some 0)]
      State.reset = true := by decide +kernel

/-- E18: the key word stays in the buffer after the refused read. -/
theorem test_key_kept_after_refused_read :
    (hostRead 0x08 (State.reset.setKey (Vector.replicate 8 0xDEADBEEF))).key[0] = 0xDEADBEEF := by decide

/-- The threshold resets to `0xB333` and is the only non-zero register (R231). -/
theorem test_reset_threshold : scriptMeets [.rd .thresh (some 0xB333)] State.reset = true := by decide +kernel

/-! ## Witnesses: for each statement with hypotheses, an input that meets them -/

theorem witness_DecodeAcceptsExactlyTheEncodedWords :
    Instr.enc.WellFormed = true ∧ decode 0x10 = .ok .enc ∧ ∀ i : Instr, (0x110 : Word) ≠ encode i :=
  ⟨rfl, by decide, fun i => by cases i <;> decide⟩

theorem witness_DecoderAgreesWithOpcodeTable :
    (⟨.rndd, 0x21, 0xFFFFFFFFFFFFFFFF⟩ : OpcodeRow) ∈ opcodeTable ∧
    (⟨.rndd, 0x21, 0xFFFFFFFFFFFFFFFF⟩ : OpcodeRow).selects 0x21 = true := by decide

/-- Both ways a word is illegal, at the edges of the opcode groups. -/
theorem witness_IllegalWordRaisesIllcmdAndNothingElse :
    (0x0000000000000100 : Word).toNat / 256 ≠ 0 ∧ (0x8000000000000010 : Word).toNat / 256 ≠ 0 ∧
    ∀ n ∈ [0x00, 0x04, 0x0F, 0x14, 0x1F, 0x22, 0xFF],
      (BitVec.ofNat 64 n).toNat % 256 ∉ [0x01, 0x02, 0x03, 0x10, 0x11, 0x12, 0x13, 0x20, 0x21] := by decide

theorem witness_StepRunsTheDecodedCommand :
    (waiting [.write 0x00 0x20, .read 0x14]).pending = .write 0x00 0x20 :: [.read 0x14] ∧
    decode 0x20 = .ok .rnde ∧ Instr.rnde.WellFormed = true := by decide

/-- One state for each of the three clauses; `ResetEventForgetsEverything` is met by the last. -/
theorem witness_StepPerformsTheOldestEvent :
    (waiting []).pending = [] ∧ (waiting [.read 0xFF]).pending = .read 0xFF :: [] ∧
    (waiting [.write 0x02 5, .reset]).pending = .write 0x02 5 :: [.reset] ∧
    (waiting [.reset, .read 0x01]).pending = .reset :: [.read 0x01] := by decide

theorem witness_ResetEventForgetsEverything :
    ((waiting [.reset]).setErr true 3).pending = .reset :: [] := rfl

/-- A state that is not the reset state meets the invariant and steps. -/
theorem witness_EveryStepKeepsTheStateInvariant :
    let s := ((waiting [.write 0x14 5]).setIv true ⟨1, 2, 3, 4⟩).setKeyed true
    s.Inv ∧ ∃ t, step s = .next t ∧ t.err = true :=
  ⟨⟨by decide, by decide, by decide, by decide⟩, _, rfl, rfl⟩

theorem witness_RegisterMapHasNoAliases :
    regAt 0x7F = some (.rk 23 3) ∧ regAt 0x20 = some (.rk 0 0) ∧ regAt 0x0F = some (.key 7) := by decide

/-- The first and last index of every range named, for both clauses. -/
theorem witness_RefusedReadReturnsZeroAndRaisesItsCause :
    (∀ n ∈ [0x03, 0x07], 0x03 ≤ (BitVec.ofNat 8 n).toNat ∧ (BitVec.ofNat 8 n).toNat ≤ 0x07) ∧
    (∀ n ∈ [0x80, 0xFF], 0x80 ≤ (BitVec.ofNat 8 n).toNat) ∧ (0x00 : Index).toNat = 0x00 ∧
    (∀ n ∈ [0x08, 0x0F], 0x08 ≤ (BitVec.ofNat 8 n).toNat ∧ (BitVec.ofNat 8 n).toNat ≤ 0x0F) := by decide

/-- The first and last index of every range named, for both clauses. -/
theorem witness_RefusedWriteRaisesItsCauseAndNothingElse :
    (∀ n ∈ [0x03, 0x07], 0x03 ≤ (BitVec.ofNat 8 n).toNat ∧ (BitVec.ofNat 8 n).toNat ≤ 0x07) ∧
    (∀ n ∈ [0x80, 0xFF], 0x80 ≤ (BitVec.ofNat 8 n).toNat) ∧ (0x01 : Index).toNat = 0x01 ∧
    (∀ n ∈ [0x14, 0x17], 0x14 ≤ (BitVec.ofNat 8 n).toNat ∧ (BitVec.ofNat 8 n).toNat ≤ 0x17) ∧
    (∀ n ∈ [0x1C, 0x7F], 0x1C ≤ (BitVec.ofNat 8 n).toNat ∧ (BitVec.ofNat 8 n).toNat ≤ 0x7F) := by decide

theorem witness_WrittenRegisterReadsBackAndOthersKeep :
    access .thresh = .rw ∧ access (.din 0) = .rw ∧ access (.din 3) = .rw ∧ access (.rkin 0) = .rw ∧
    access (.rkin 3) = .rw ∧ Reg.rkin 3 ≠ Reg.din 3 := by decide

theorem witness_ErrorActionKeepsTheFirstCause :
    State.reset.err = false ∧ (raiseError .readWo State.reset).err = true := by decide

/-- A second error while `ERR = 1`. -/
theorem witness_OnlyResetClearsTheError :
    let s := (waiting [.write 0x00 0, .reset]).setErr true 4
    s.pending = .write 0x00 0 :: [.reset] ∧ PortEvent.write 0x00 0 ≠ .reset ∧ s.err = true ∧
      ∃ t, step s = .next t := ⟨rfl, by decide, rfl, _, rfl⟩

theorem witness_BlocksAndWordsConvertBothWays :
    seqBytes.length = 32 ∧ (countUp 8).length = 8 := by decide

theorem witness_RotationsUndoEachOther : 1 ≤ 1 ∧ 1 ≤ 63 ∧ 63 ≤ 63 := by decide

theorem witness_RndeIsOneForwardRound :
    (∃ t, exec .rnde State.reset = .next t) ∧
    State.reset.din = ⟨0, 0, 0, 0⟩ ∧ State.reset.rkin = ⟨0, 0, 0, 0⟩ ∧
    (State.reset.setDin ⟨1, 0, 0, 0⟩).din = ⟨1, 0, 0, 0⟩ := ⟨⟨_, rfl⟩, rfl, rfl, rfl⟩

theorem witness_RnddIsOneInverseDirectionRound :
    (State.reset.setDin Config.D).din = Config.D ∧
    (State.reset.setDin ⟨0x81 ^^^ Config.D.w0, Config.D.w1, Config.D.w2, 1 ^^^ Config.D.w3⟩).din =
      ⟨0x81 ^^^ Config.D.w0, Config.D.w1, Config.D.w2, 1 ^^^ Config.D.w3⟩ ∧
    State.reset.rkin = ⟨0, 0, 0, 0⟩ := ⟨rfl, rfl, rfl⟩

/-- Two hashes that agree on digest bytes 0 to 31 of every message and differ on byte 63. -/
theorem witness_ScheduleIgnoresDigestBytes32To63 :
    let h : List Byte → Config.Digest := fun _ => Vector.replicate 64 0
    let h' : List Byte → Config.Digest := fun _ => (Vector.replicate 64 0).set 63 0xFF
    (∀ i < 24, (h (hashMessage [] i)).toList.take 32 = (h' (hashMessage [] i)).toList.take 32) ∧
    h [] ≠ h' [] := by
  refine ⟨fun i _ => ?_, ?_⟩
  · show (Vector.replicate 64 (0 : Byte)).toList.take 32 =
      ((Vector.replicate 64 (0 : Byte)).set 63 0xFF).toList.take 32
    rfl
  · show (Vector.replicate 64 (0 : Byte)) ≠ (Vector.replicate 64 (0 : Byte)).set 63 0xFF
    decide

/-- Blocks of both extremes; they meet the one hypothesis of the six statements about a 32-byte block. -/
theorem witness_HistogramCountsSumTo32 : zeroBytes.length = 32 ∧ seqBytes.length = 32 := by decide

theorem witness_EntropyClosedForms : zeroBytes.length = 32 ∧ seqBytes.length = 32 := by decide

theorem witness_EntropyRangeAndItsEnds :
    zeroBytes.length = 32 ∧ zeroBytes = List.replicate 32 0 ∧ seqBytes.length = 32 ∧ seqBytes.Nodup := by
  decide +kernel

theorem witness_SelectorIsTheExactRealComparison :
    seqBytes.length = 32 ∧ extraSelected seqBytes 0x9FFF = true ∧ extraSelected seqBytes 0xA000 = false := by
  decide +kernel

/-- Both ends of each of the regions, each with the zero region between them. -/
theorem witness_ThresholdRegions :
    (∀ v ∈ [(0xA000 : Word), 0x7FFFFFFFFFFFFFFF], 0xA000 ≤ v.toNat ∧ v.toNat ≤ 0x7FFFFFFFFFFFFFFF) ∧
    (State.reset.setThresh 0xA000).thresh = 0xA000 ∧
    (∀ v ∈ [(0x8000000000000000 : Word), 0xFFFFFFFFFFFFFFFF], 0x8000000000000000 ≤ v.toNat) ∧
    (∀ v ∈ [(1 : Word), 0x9FFF], 0 < v.toNat ∧ v.toNat < 40960) ∧ seqBytes.length = 32 := by
  simp [seqBytes]

/-- The score of the zero block is 0: its one count is 32. -/
theorem normalizedEntropy_zeroBytes : normalizedEntropy (bytes32 Quad.zero) = 0 := by
  have h : positiveCounts (bytes32 Quad.zero) = [32] := by decide +kernel
  simp [normalizedEntropy, entropy, h]

/-- After reset the block is zero, which the reset threshold does not select and the threshold of S3 does. -/
theorem witness_EncaSelectsItsPathByEntropy :
    normalizedEntropy (bytes32 (State.reset.setThresh (-1)).din) >
      thresholdValue (State.reset.setThresh (-1)).thresh ∧
    ¬ normalizedEntropy (bytes32 State.reset.din) > thresholdValue State.reset.thresh := by
  have h1 : sint64 (-1 : Word) = -1 := by decide
  have h2 : sint64 Config.threshReset = 45875 := by decide
  constructor
  · show normalizedEntropy (bytes32 Quad.zero) > thresholdValue (-1)
    rw [normalizedEntropy_zeroBytes, thresholdValue, h1]; norm_num
  · show ¬ normalizedEntropy (bytes32 Quad.zero) > thresholdValue Config.threshReset
    rw [normalizedEntropy_zeroBytes, thresholdValue, h2]; norm_num

theorem witness_DecxIsTheExtraRoundsDecryptDirection : State.reset.ivv = false := rfl

theorem witness_CommandsWriteOnlyTheirRegisters :
    Instr.enc ≠ .keysetup ∧ Instr.enc ≠ .ivset ∧ Instr.enc ≠ .ivclr ∧ Instr.enc ≠ .enca := by decide

/-- Two different states that agree on what the table marks `r`, for each group of commands. -/
theorem witness_DataCommandsReadOnlyTheirRegisters :
    let s := State.reset
    let s' := (State.reset.setKey (Vector.replicate 8 1)).setErr true 2
    s ≠ s' ∧ s.din = s'.din ∧ s.rkin = s'.rkin ∧ s.rk = s'.rk ∧ s.iv = s'.iv ∧ s.ivv = s'.ivv ∧
      s.thresh = s'.thresh ∧
      (∀ i : Instr, ∃ t t' : State, exec i s = .next t ∧ exec i s' = .next t') := by
  refine ⟨by decide, rfl, rfl, rfl, rfl, rfl, rfl, fun i => ?_⟩
  cases i <;> exact ⟨_, _, rfl, rfl⟩

/-- An event that is no reset and no command: each premise of the four clauses holds of it. -/
theorem witness_ContextAndOutputChangeOnlyByTheirCommands :
    let s := waiting [.write 0x02 5]
    s.pending = .write 0x02 5 :: [] ∧ PortEvent.write 0x02 5 ≠ .reset ∧ (∃ t, step s = .next t) ∧
      ∀ i : Instr, PortEvent.write 0x02 5 ≠ .write 0x00 (encode i) :=
  ⟨rfl, by decide, ⟨_, rfl⟩, fun i => by cases i <;> decide⟩

/-- The command ENC: each premise of the four clauses holds of it. -/
theorem witness_OperandsChangeOnlyByTheirWrites :
    let s := waiting [.write 0x00 (encode .enc)]
    s.pending = .write 0x00 (encode .enc) :: [] ∧ PortEvent.write 0x00 (encode .enc) ≠ .reset ∧
      (∃ t, step s = .next t) ∧
      (∀ (w : Fin 4) (v : Word), PortEvent.write 0x00 (encode .enc) ≠ .write (0x10 + BitVec.ofNat 8 w) v) ∧
      (∀ (w : Fin 4) (v : Word), PortEvent.write 0x00 (encode .enc) ≠ .write (0x18 + BitVec.ofNat 8 w) v) ∧
      (∀ v : Word, PortEvent.write 0x00 (encode .enc) ≠ .write 0x02 v) ∧
      (∀ (i : Fin 8) (v : Word), PortEvent.write 0x00 (encode .enc) ≠ .write (0x08 + BitVec.ofNat 8 i) v) ∧
      PortEvent.write 0x00 (encode .enc) ≠ .write 0x00 (encode .keysetup) := by
  refine ⟨rfl, by decide, ⟨_, rfl⟩, ?_, ?_, ?_, ?_, by decide⟩
  · intro w v h; injection h with h _; revert w; decide
  · intro w v h; injection h with h _; revert w; decide
  · intro v h; injection h with h _; revert h; decide
  · intro i v h; injection h with h _; revert i; decide

/-- Events of every kind but KEYSETUP, a refused read of `KEY[0]` among them. -/
theorem witness_KeyIsNotRevealedByThePort :
    ∀ e ∈ [PortEvent.read 0x08, .write 0x08 5, .write 0x00 (encode .enc), .read 0x14, .reset],
      e ≠ .write 0x00 (encode .keysetup) := by decide

theorem witness_PseudoOperationsLoadTheirRegisters :
    (countUp 64).length = 64 ∧ (countUp 32).length = 32 := by decide

end Sys2Proof.Tests
end

/-! PROOFS. 00_scope.md R15 and R16: the byte and word conversions and the rotations, settling O25 and O27. -/

namespace Sys2Proof.Machine

/-! ## Bytes and words (00_scope.md R16) -/

theorem le64_getElem? (n : Word) {j : Nat} (h : j < 8) :
    (le64 n)[j]? = some (n.extractLsb' (8 * j) 8) := by
  simp [le64, h]

@[simp] theorem wordAt_le64_append_zero (n : Word) (bytes : List Byte) :
    wordAt (le64 n ++ bytes) 0 = n := by
  simp [wordAt]

@[simp] theorem wordAt_le64_append_succ (n : Word) (bytes : List Byte) (w : Nat) :
    wordAt (le64 n ++ bytes) (w + 1) = wordAt bytes w := by
  have hdrop : (le64 n ++ bytes).drop (8 * (w + 1)) = bytes.drop (8 * w) := by
    rw [Nat.mul_succ, Nat.add_comm, ← List.drop_drop, List.drop_left' (le64_length n)]
  rw [wordAt, hdrop, wordAt]

theorem words4_bytes32 (q : Quad) : words4 (bytes32 q) = q := by
  have hlast : wordAt (le64 q.w3) 0 = q.w3 := by
    simpa using wordAt_le64_append_zero q.w3 []
  simp [words4, bytes32, hlast]

theorem le64_wordAt (bytes : List Byte) {w : Nat} (h : 8 * w + 8 ≤ bytes.length) :
    le64 (wordAt bytes w) = (bytes.drop (8 * w)).take 8 :=
  le64_wordLe _ (by simp; omega)

/-- The bytes of the four words are the string cut at 8, 16 and 24. -/
theorem bytes32_words4 (bytes : List Byte) (h : bytes.length = 32) :
    bytes32 (words4 bytes) = bytes := by
  have hcut : bytes.take 32 = bytes.take 8 ++ (bytes.drop 8).take 8 ++ (bytes.drop 16).take 8 ++
      (bytes.drop 24).take 8 := by
    simp only [← List.take_add]
  rw [List.take_of_length_le h.le] at hcut
  simp only [bytes32, words4]
  rw [le64_wordAt, le64_wordAt, le64_wordAt, le64_wordAt]
  · exact hcut.symm
  all_goals omega

/-- A byte string is read as base-256 digits, least significant first, modulo the word size. -/
theorem wordLe_toNat (bytes : List Byte) :
    (wordLe bytes).toNat = Nat.ofDigits 256 (bytes.map BitVec.toNat) % 2 ^ 64 := by
  induction bytes with
  | nil => rfl
  | cons b bs ih => simp [wordLe, Nat.ofDigits_cons, ih]

theorem ofDigits_toNat_lt (bytes : List Byte) :
    Nat.ofDigits 256 (bytes.map BitVec.toNat) < 256 ^ bytes.length := by
  have hdigit : ∀ d ∈ bytes.map BitVec.toNat, d < 256 := by
    simp only [List.mem_map]
    rintro _ ⟨b, -, rfl⟩
    exact b.isLt
  simpa using Nat.ofDigits_lt_base_pow_length (by decide) hdigit

theorem ofDigits_toNat_eq_sum (bytes : List Byte) :
    Nat.ofDigits 256 (bytes.map BitVec.toNat) =
      ∑ j ∈ Finset.range bytes.length, (bytes.getD j 0).toNat * 2 ^ (8 * j) := by
  induction bytes with
  | nil => rfl
  | cons b bs ih =>
    rw [List.map_cons, Nat.ofDigits_cons, ih, List.length_cons, Finset.sum_range_succ',
      Finset.mul_sum, Nat.add_comm]
    congr 1
    · refine Finset.sum_congr rfl fun j _ => ?_
      rw [List.getD_cons_succ, Nat.mul_succ, pow_add]
      ring
    · simp

theorem wordLe_toNat_eq_sum (bytes : List Byte) (h : bytes.length ≤ 8) :
    (wordLe bytes).toNat =
      ∑ j ∈ Finset.range bytes.length, (bytes.getD j 0).toNat * 2 ^ (8 * j) := by
  have hlt : Nat.ofDigits 256 (bytes.map BitVec.toNat) < 2 ^ 64 :=
    calc _ < 256 ^ bytes.length := ofDigits_toNat_lt bytes
      _ ≤ 256 ^ 8 := Nat.pow_le_pow_right (by decide) h
      _ = 2 ^ 64 := by norm_num
  rw [wordLe_toNat, Nat.mod_eq_of_lt hlt, ofDigits_toNat_eq_sum]

/-- Settles O25: word by word, by the inverse laws of `le64` and `wordLe`; the weighted sum is a base-256 number,
and one of eight digits does not overflow a word. -/
theorem blocksAndWordsConvertBothWays : Obligations.BlocksAndWordsConvertBothWays :=
  ⟨words4_bytes32, bytes32_words4, fun n j => le64_getElem? n j.isLt,
    fun bytes h => by rw [wordLe_toNat_eq_sum bytes h.le, h]⟩

/-! ## The rotations (00_scope.md R15) -/

/-- The two shifts of a rotation have no bit in common. -/
theorem shiftLeft_and_ushiftRight_eq_zero (x : Word) {r : Nat} (h : r ≤ 64) :
    (x <<< r) &&& (x >>> (64 - r)) = 0#64 := by
  ext i hi
  by_cases hir : i < r
  · simp [hir]
  · have hhigh : x.getLsbD (64 - r + i) = false := BitVec.getLsbD_of_ge x _ (by omega)
    simp [hhigh]

theorem rotl_toNat (x : Word) {r : Nat} (h : r ≤ 64) :
    (rotl x r).toNat = (x.toNat * 2 ^ r) % 2 ^ 64 + x.toNat / 2 ^ (64 - r) := by
  have hdisjoint := shiftLeft_and_ushiftRight_eq_zero x h
  rw [rotl, ← BitVec.add_eq_or_of_and_eq_zero _ _ hdisjoint,
    BitVec.toNat_add_of_and_eq_zero hdisjoint, BitVec.toNat_shiftLeft, BitVec.toNat_ushiftRight,
    Nat.shiftLeft_eq, Nat.shiftRight_eq_div_pow]

theorem rotr_rotl (x : Word) {r : Nat} (h : r < 64) : rotr (rotl x r) r = x := by
  rw [rotl_eq_rotateLeft x h, rotr_eq_rotateRight _ h]
  ext i hi
  simp only [BitVec.getElem_rotateRight, BitVec.getElem_rotateLeft, Nat.mod_eq_of_lt h]
  by_cases hlow : i < 64 - r
  · simp [hlow]
  · have hwrapped : i - (64 - r) < r := by omega
    have hback : 64 - r + (i - (64 - r)) = i := by omega
    simp [hlow, hwrapped, hback]

/-- A right rotation is the left rotation by the rest of the word. -/
theorem rotr_eq_rotl (x : Word) {r : Nat} (h : r ≤ 64) : rotr x r = rotl x (64 - r) := by
  rw [rotr, rotl, Nat.sub_sub_self h, BitVec.or_comm]

theorem rotl_rotr (x : Word) {r : Nat} (h : 1 ≤ r) (h' : r < 64) : rotl (rotr x r) r = x := by
  have hrest : 64 - r < 64 := by omega
  have hback := rotr_rotl x hrest
  rw [rotr_eq_rotl _ hrest.le, Nat.sub_sub_self h'.le] at hback
  rwa [rotr_eq_rotl x h'.le]

/-- Settles O27: the two shifts share no bit, so their OR is their sum; the right rotation undoes the left one bit
by bit, and the other order is the same law at `64 - r`. -/
theorem rotationsUndoEachOther : Obligations.RotationsUndoEachOther := fun x r h1 h63 =>
  have h : r < 64 := by omega
  ⟨rotl_toNat x h.le, rotr_rotl x h, rotl_rotr x h1 h⟩

end Sys2Proof.Machine

/-! PROOFS. 10_state.md: the register map, what a command, an event and a step change, and the invariant of
the state, settling O5, O12, O15, O20, O21, O23, O26, O51, O55, O56, O57 and O58. -/

namespace Sys2Proof.Machine

/-! ## Command words (30_encoding.md R80, R82) -/

/-- The two fields make up the whole word. -/
theorem eq_of_zeroField_of_opField {v w : Word} (hzero : zeroField v = zeroField w)
    (hop : opField v = opField w) : v = w := by
  have hhigh : v.toNat / 256 % 2 ^ 56 = w.toNat / 256 % 2 ^ 56 := by
    simpa [zeroField, Nat.shiftRight_eq_div_pow] using congrArg BitVec.toNat hzero
  have hlow : v.toNat % 256 = w.toNat % 256 := by
    simpa [opField] using congrArg BitVec.toNat hop
  apply BitVec.eq_of_toNat_eq
  omega

theorem opField_eq_of_decodeOp {op : BitVec 8} {i : Instr} (h : decodeOp op = .ok i) :
    op = opField (encode i) := by
  unfold decodeOp at h
  split_ifs at h <;> cases h <;> assumption

theorem eq_encode_of_decode {v : Word} {i : Instr} (h : decode v = .ok i) : v = encode i := by
  unfold decode at h
  split_ifs at h with hzero
  refine eq_of_zeroField_of_opField ?_ (opField_eq_of_decodeOp h)
  rw [not_not.mp hzero]
  cases i <;> rfl

/-! ## The register map (20_memory.md R53) -/

@[simp] theorem regAt_regIndex (r : Reg) : regAt (regIndex r) = some r := by
  cases r with
  | cmd | status | thresh => rfl
  | key i => revert i; decide
  | din w | dout w | rkin w | iv w => revert w; decide
  | rk r w => revert r w; decide

theorem eq_regIndex_of_regAt {idx : Index} {r : Reg} (h : regAt idx = some r) :
    idx = regIndex r := by
  simp only [regAt] at h
  split_ifs at h <;> cases h <;> apply BitVec.eq_of_toNat_eq <;> simp [regIndex] <;> omega

/-- Settles O15: `regIndex` is a left inverse of the map as well as a right one. -/
theorem registerMapHasNoAliases : Obligations.RegisterMapHasNoAliases :=
  ⟨regAt_regIndex, fun _ _ _ h h' => (eq_regIndex_of_regAt h).trans (eq_regIndex_of_regAt h').symm⟩

theorem regIndex_key (i : Fin 8) : regIndex (.key i) = 0x08 + BitVec.ofNat 8 i :=
  BitVec.ofNat_add ..

theorem regIndex_din (w : Fin 4) : regIndex (.din w) = 0x10 + BitVec.ofNat 8 w :=
  BitVec.ofNat_add ..

theorem regIndex_rkin (w : Fin 4) : regIndex (.rkin w) = 0x18 + BitVec.ofNat 8 w :=
  BitVec.ofNat_add ..

/-! ## Writing one register: its frame and its reading back -/

section
variable (r : Reg) (v : Word) (s : State)

@[simp] theorem writeReg_rk : (writeReg r v s).rk = s.rk := by cases r <;> rfl
@[simp] theorem writeReg_iv : (writeReg r v s).iv = s.iv := by cases r <;> rfl
@[simp] theorem writeReg_ivv : (writeReg r v s).ivv = s.ivv := by cases r <;> rfl
@[simp] theorem writeReg_keyed : (writeReg r v s).keyed = s.keyed := by cases r <;> rfl
@[simp] theorem writeReg_dout : (writeReg r v s).dout = s.dout := by cases r <;> rfl
@[simp] theorem writeReg_xmode : (writeReg r v s).xmode = s.xmode := by cases r <;> rfl
@[simp] theorem writeReg_err : (writeReg r v s).err = s.err := by cases r <;> rfl
@[simp] theorem writeReg_errCode : (writeReg r v s).errCode = s.errCode := by cases r <;> rfl

@[simp] theorem statusWord_writeReg : statusWord (writeReg r v s) = statusWord s := by
  simp [statusWord]

variable {r}

theorem writeReg_thresh_of_ne (h : r ≠ .thresh) : (writeReg r v s).thresh = s.thresh := by
  cases r with
  | thresh => exact absurd rfl h
  | _ => rfl

theorem writeReg_key_of_ne (h : ∀ i, r ≠ .key i) : (writeReg r v s).key = s.key := by
  cases r with
  | key i => exact absurd rfl (h i)
  | _ => rfl

theorem writeReg_din_of_ne (h : ∀ w, r ≠ .din w) : (writeReg r v s).din = s.din := by
  cases r with
  | din w => exact absurd rfl (h w)
  | _ => rfl

theorem writeReg_rkin_of_ne (h : ∀ w, r ≠ .rkin w) : (writeReg r v s).rkin = s.rkin := by
  cases r with
  | rkin w => exact absurd rfl (h w)
  | _ => rfl

theorem readReg_writeReg_same (h : access r = .rw) : readReg r (writeReg r v s) = v := by
  cases r with
  | thresh => rfl
  | din w | rkin w => simp [readReg, writeReg, quadGet_quadSet]
  | _ => cases h

/-- No register shares storage with another (10_state.md R26). -/
theorem readReg_writeReg_of_ne {r' : Reg} (h : r' ≠ r) :
    readReg r' (writeReg r v s) = readReg r' s := by
  cases r' with
  | cmd => rfl
  | status => exact statusWord_writeReg r v s
  | dout w | iv w | rk x w => simp [readReg]
  | thresh => exact writeReg_thresh_of_ne v s h.symm
  | key i =>
    cases r with
    | key j =>
      have hij : (j : ℕ) ≠ i := fun hji => h (congrArg Reg.key (Fin.ext hji.symm))
      simp [readReg, writeReg, hij]
    | _ => rfl
  | din w =>
    cases r with
    | din x =>
      have hwx : w ≠ x := fun hwx => h (congrArg Reg.din hwx)
      simp [readReg, writeReg, quadGet_quadSet, hwx]
    | _ => rfl
  | rkin w =>
    cases r with
    | rkin x =>
      have hwx : w ≠ x := fun hwx => h (congrArg Reg.rkin hwx)
      simp [readReg, writeReg, quadGet_quadSet, hwx]
    | _ => rfl

theorem hostWrite_regIndex_of_rw (h : access r = .rw) :
    hostWrite (regIndex r) v s = .next (writeReg r v s) := by
  cases r with
  | thresh | din w | rkin w => simp [hostWrite, access]
  | _ => cases h

theorem hostRead_regIndex_of_rw (h : access r = .rw) :
    hostRead (regIndex r) s = s.setResponse (some (readReg r s)) := by
  simp [hostRead, h]

end

/-- Settles O20: the state after the write is `writeReg`, whose reading back and frame are known register by
register. -/
theorem writtenRegisterReadsBackAndOthersKeep :
    Obligations.WrittenRegisterReadsBackAndOthersKeep := fun r v s h => by
  refine ⟨writeReg r v s, hostWrite_regIndex_of_rw v s h, ?_,
    fun _ hne => readReg_writeReg_of_ne v s hne⟩
  rw [hostRead_regIndex_of_rw _ h, readReg_writeReg_same v s h]
  rfl

/-! ## What a command writes and reads (10_state.md R39) -/

theorem exec_completes (i : Instr) (s : State) : ∃ t, exec i s = .next t := by
  cases i <;> exact ⟨_, rfl⟩

/-- Everything a command can write, as the `w` cells group the nine commands. -/
theorem exec_cases {i : Instr} {s t : State} (h : exec i s = .next t) :
    (i = .keysetup ∧ ∃ rk, t = ((s.setRk rk).setKeyed true).setKey (Vector.replicate 8 0)) ∨
    (i = .ivset ∧ t = s.setIv true s.din) ∨
    (i = .ivclr ∧ t = s.setIv false Quad.zero) ∨
    (i = .enca ∧ ∃ q b, t = (s.setDout q).setXmode b) ∨
    (i ∈ [Instr.enc, .dec, .decx, .rnde, .rndd] ∧ ∃ q, t = s.setDout q) := by
  cases i with
  | keysetup => exact .inl ⟨rfl, _, (Host.Outcome.next.inj h).symm⟩
  | ivset => exact .inr (.inl ⟨rfl, (Host.Outcome.next.inj h).symm⟩)
  | ivclr => exact .inr (.inr (.inl ⟨rfl, (Host.Outcome.next.inj h).symm⟩))
  | enca => exact .inr (.inr (.inr (.inl ⟨rfl, _, _, (Host.Outcome.next.inj h).symm⟩)))
  | enc | dec | decx | rnde | rndd =>
    exact .inr (.inr (.inr (.inr ⟨by decide, _, (Host.Outcome.next.inj h).symm⟩)))

section
variable {i : Instr} {s t : State}

theorem exec_keeps_operands (h : exec i s = .next t) :
    t.din = s.din ∧ t.rkin = s.rkin ∧ t.thresh = s.thresh := by
  obtain ⟨-, rk, rfl⟩ | ⟨-, rfl⟩ | ⟨-, rfl⟩ | ⟨-, q, b, rfl⟩ | ⟨-, q, rfl⟩ := exec_cases h <;> simp

theorem exec_keeps_error (h : exec i s = .next t) : t.err = s.err ∧ t.errCode = s.errCode := by
  obtain ⟨-, rk, rfl⟩ | ⟨-, rfl⟩ | ⟨-, rfl⟩ | ⟨-, q, b, rfl⟩ | ⟨-, q, rfl⟩ := exec_cases h <;> simp

theorem exec_keeps_keying (h : exec i s = .next t) (hi : i ≠ .keysetup) :
    t.rk = s.rk ∧ t.keyed = s.keyed ∧ t.key = s.key := by
  obtain ⟨rfl, -⟩ | ⟨-, rfl⟩ | ⟨-, rfl⟩ | ⟨-, q, b, rfl⟩ | ⟨-, q, rfl⟩ := exec_cases h
  · exact absurd rfl hi
  all_goals simp

theorem exec_keeps_iv (h : exec i s = .next t) (hset : i ≠ .ivset) (hclr : i ≠ .ivclr) :
    t.iv = s.iv ∧ t.ivv = s.ivv := by
  obtain ⟨-, rk, rfl⟩ | ⟨rfl, -⟩ | ⟨rfl, -⟩ | ⟨-, q, b, rfl⟩ | ⟨-, q, rfl⟩ := exec_cases h
  · simp
  · exact absurd rfl hset
  · exact absurd rfl hclr
  all_goals simp

theorem exec_keeps_dout (h : exec i s = .next t)
    (hi : i ∉ [Instr.enc, .dec, .enca, .decx, .rnde, .rndd]) : t.dout = s.dout := by
  obtain ⟨-, rk, rfl⟩ | ⟨-, rfl⟩ | ⟨-, rfl⟩ | ⟨rfl, -⟩ | ⟨hdata, -⟩ := exec_cases h
  · simp
  · simp
  · simp
  · exact absurd (by decide) hi
  · have hsub : [Instr.enc, .dec, .decx, .rnde, .rndd] ⊆
        [Instr.enc, .dec, .enca, .decx, .rnde, .rndd] := by decide
    exact absurd (hsub hdata) hi

theorem exec_keeps_xmode (h : exec i s = .next t) (hi : i ≠ .enca) : t.xmode = s.xmode := by
  obtain ⟨-, rk, rfl⟩ | ⟨-, rfl⟩ | ⟨-, rfl⟩ | ⟨rfl, -⟩ | ⟨-, q, rfl⟩ := exec_cases h
  · simp
  · simp
  · simp
  · exact absurd rfl hi
  · simp

end

/-- Settles O55: a command completes, and each group of registers is kept by the commands without a `w` there. -/
theorem commandsWriteOnlyTheirRegisters : Obligations.CommandsWriteOnlyTheirRegisters := fun i s => by
  obtain ⟨t, h⟩ := exec_completes i s
  obtain ⟨hdin, hrkin, hthresh⟩ := exec_keeps_operands h
  obtain ⟨herr, hcode⟩ := exec_keeps_error h
  refine ⟨t, h, hdin, hrkin, hthresh, herr, hcode, exec_keeps_keying h, exec_keeps_iv h,
    fun hcontext => exec_keeps_dout h ?_, exec_keeps_xmode h⟩
  rcases hcontext with rfl | rfl | rfl <;> decide

/-- Settles O56: each data command's equation names as operands the registers marked `r` alone. -/
theorem dataCommandsReadOnlyTheirRegisters : Obligations.DataCommandsReadOnlyTheirRegisters := by
  intro i s s' t t' h h' hdin
  refine ⟨?_, ?_, ?_⟩
  · rintro (rfl | rfl) hrkin <;> obtain rfl := Host.Outcome.next.inj h <;>
      obtain rfl := Host.Outcome.next.inj h' <;> simp [hdin, hrkin]
  · rintro (rfl | rfl | rfl) hrk hiv hivv <;> obtain rfl := Host.Outcome.next.inj h <;>
      obtain rfl := Host.Outcome.next.inj h' <;> simp [hdin, hrk, hiv, hivv]
  · rintro rfl hrk hiv hivv hthresh
    obtain rfl := Host.Outcome.next.inj h
    obtain rfl := Host.Outcome.next.inj h'
    simp [hdin, hrk, hiv, hivv, hthresh]

/-! ## What an event changes (20_memory.md R51, R52) -/

/-- Everything an event other than reset can do: a read is answered, an access or a command word is refused, a
register is written, or a command runs. -/
theorem performEvent_cases {e : PortEvent} {s t : State} (he : e ≠ .reset)
    (h : performEvent e s = .next t) :
    (∃ a, t = s.setResponse a) ∨
    (∃ c a, t = (raiseError c s).setResponse a) ∨
    (∃ r v, e = .write (regIndex r) v ∧ t = writeReg r v (s.setResponse none)) ∨
    (∃ i, e = .write 0x00 (encode i) ∧ exec i (s.setResponse none) = .next t) := by
  cases e with
  | reset => exact absurd rfl he
  | read idx =>
    obtain rfl : hostRead idx (s.setResponse none) = t := by simpa [performEvent] using h
    obtain ⟨r, -, -, hread⟩ | ⟨r, -, -, hread⟩ | ⟨-, hread⟩ := hostRead_cases idx (s.setResponse none)
    · exact .inl ⟨_, hread⟩
    · exact .inr (.inl ⟨_, _, hread⟩)
    · exact .inr (.inl ⟨_, _, hread⟩)
  | write idx v =>
    replace h : hostWrite idx v (s.setResponse none) = .next t := h
    obtain ⟨hcmd, hw⟩ | ⟨r, hr, -, -, hw⟩ | ⟨r, -, -, hw⟩ | ⟨-, hw⟩ :=
      hostWrite_cases idx v (s.setResponse none) <;> rw [hw] at h
    · obtain ⟨i, hi, hp⟩ | ⟨_, -, hp⟩ := perform_cases v (s.setResponse none) <;> rw [hp] at h
      · have hevent : PortEvent.write idx v = .write 0x00 (encode i) := by
          rw [eq_regIndex_of_regAt hcmd, eq_encode_of_decode hi]
          rfl
        exact .inr (.inr (.inr ⟨i, hevent, h⟩))
      · cases h; exact .inr (.inl ⟨.illcmd, none, rfl⟩)
    · cases h
      exact .inr (.inr (.inl ⟨r, v, by rw [eq_regIndex_of_regAt hr], rfl⟩))
    · cases h; exact .inr (.inl ⟨.writeRo, none, rfl⟩)
    · cases h; exact .inr (.inl ⟨.unmapped, none, rfl⟩)

/-! ## What a step changes -/

/-- Settles O5: index `0x00` is `CMD`, and a write to it performs the word. -/
theorem stepRunsTheDecodedCommand : Obligations.StepRunsTheDecodedCommand := by
  intro s v i rest hp hv _
  have hcmd : ∀ u : State, hostWrite 0x00 v u = perform v u := fun _ => rfl
  rw [step_of_pending hp, performEvent, hcmd, perform, hv]
  rfl

/-- Settles O23: the error action keeps the code of a set `ERR`, and nothing else an event does touches either. -/
theorem onlyResetClearsTheError : Obligations.OnlyResetClearsTheError := by
  intro s t e rest hp he herr hs
  rw [step_of_pending hp] at hs
  obtain ⟨a, rfl⟩ | ⟨c, a, rfl⟩ | ⟨r, v, -, rfl⟩ | ⟨i, -, hexec⟩ := performEvent_cases he hs
  · exact ⟨herr, rfl⟩
  · simp [herr]
  · simp [herr]
  · obtain ⟨herr', hcode⟩ := exec_keeps_error hexec
    exact ⟨herr'.trans herr, hcode⟩

/-- Settles O57: of all an event can do, only a command touches these registers, and its word is its own. -/
theorem contextAndOutputChangeOnlyByTheirCommands :
    Obligations.ContextAndOutputChangeOnlyByTheirCommands := by
  intro s t e rest hp he hs
  rw [step_of_pending hp] at hs
  obtain ⟨a, rfl⟩ | ⟨c, a, rfl⟩ | ⟨r, v, -, rfl⟩ | ⟨i, rfl, hexec⟩ := performEvent_cases he hs
  · simp
  · simp
  · simp
  · have hother {j : Instr} (hne : PortEvent.write 0x00 (encode i) ≠ .write 0x00 (encode j)) :
        i ≠ j := fun hij => hne (by rw [hij])
    have hkeying := exec_keeps_keying hexec
    have hiv := exec_keeps_iv hexec
    have hxmode := exec_keeps_xmode hexec
    have hdout := exec_keeps_dout hexec
    refine ⟨fun hne => ?_, fun hset hclr => hiv (hother hset) (hother hclr),
      fun hne => hxmode (hother hne), fun hne => hdout fun hmem => hne i hmem rfl⟩
    obtain ⟨hrk, hkeyed, -⟩ := hkeying (hother hne)
    exact ⟨hrk, hkeyed⟩

/-- Settles O58: only a write to one of its indices touches an operand register, and `KEY` also KEYSETUP. -/
theorem operandsChangeOnlyByTheirWrites : Obligations.OperandsChangeOnlyByTheirWrites := by
  intro s t e rest hp he hs
  rw [step_of_pending hp] at hs
  obtain ⟨a, rfl⟩ | ⟨c, a, rfl⟩ | ⟨r, v, rfl, rfl⟩ | ⟨i, rfl, hexec⟩ := performEvent_cases he hs
  · simp
  · simp
  · refine ⟨fun hne => writeReg_din_of_ne _ _ ?_, fun hne => writeReg_rkin_of_ne _ _ ?_,
      fun hne => writeReg_thresh_of_ne _ _ ?_, fun hne _ => writeReg_key_of_ne _ _ ?_⟩
    · rintro w rfl; exact hne w v (by rw [regIndex_din])
    · rintro w rfl; exact hne w v (by rw [regIndex_rkin])
    · rintro rfl; exact hne v rfl
    · rintro i rfl; exact hne i v (by rw [regIndex_key])
  · obtain ⟨hdin, hrkin, hthresh⟩ := exec_keeps_operands hexec
    refine ⟨fun _ => hdin, fun _ => hrkin, fun _ => hthresh, fun _ hne => ?_⟩
    obtain ⟨-, -, hkey⟩ := exec_keeps_keying hexec (by rintro rfl; exact hne rfl)
    exact hkey

/-! ## The invariant of the state (10_state.md R28, R29, R34; 60_exceptions.md R202) -/

namespace State

/-- The invariant speaks of the context and the error flags alone. -/
theorem Inv.congr {s t : State} (h : s.Inv) (hiv : t.iv = s.iv ∧ t.ivv = s.ivv)
    (hkeying : t.rk = s.rk ∧ t.keyed = s.keyed) (herr : t.err = s.err ∧ t.errCode = s.errCode) :
    t.Inv := by
  obtain ⟨hiv, hivv⟩ := hiv
  obtain ⟨hrk, hkeyed⟩ := hkeying
  obtain ⟨herr, hcode⟩ := herr
  constructor
  · rw [hivv, hiv]; exact h.ivAbsent
  · rw [hkeyed, hrk]; exact h.unkeyed
  · rw [herr, hcode]; exact h.errCodeZero
  · rw [hcode]; exact h.errCodeAssigned

theorem inv_reset : State.reset.Inv := ⟨fun _ => rfl, fun _ => rfl, by decide, by decide⟩

theorem Inv.setResponse {s : State} (h : s.Inv) (a : Option Word) : (s.setResponse a).Inv :=
  h.congr ⟨rfl, rfl⟩ ⟨rfl, rfl⟩ ⟨rfl, rfl⟩

theorem Inv.setPending {s : State} (h : s.Inv) (es : List PortEvent) : (s.setPending es).Inv :=
  h.congr ⟨rfl, rfl⟩ ⟨rfl, rfl⟩ ⟨rfl, rfl⟩

theorem Inv.writeReg {s : State} (h : s.Inv) (r : Reg) (v : Word) : (writeReg r v s).Inv :=
  h.congr (by simp) (by simp) (by simp)

/-- The code that stands after an error is an assigned one: the first error's, or the cause's own. -/
theorem Inv.raiseError {s : State} (h : s.Inv) (c : ErrCause) : (raiseError c s).Inv where
  ivAbsent := h.ivAbsent
  unkeyed := h.unkeyed
  errCodeZero := by
    obtain ⟨hne, -⟩ := causeCode_range c
    cases herr : s.err with
    | false => simpa [herr] using hne
    | true => simpa [herr] using h.errCodeZero
  errCodeAssigned := by
    obtain ⟨-, hle⟩ := causeCode_range c
    cases herr : s.err with
    | false => simpa [herr] using hle
    | true => simpa [herr] using h.errCodeAssigned

/-- KEYSETUP sets `KEYED`, IVSET sets `IVV`, IVCLR zeroes the IV it makes absent; no other command touches what the
invariant speaks of. -/
theorem Inv.exec {s t : State} (h : s.Inv) {i : Instr} (hexec : exec i s = .next t) : t.Inv := by
  obtain ⟨-, rk, rfl⟩ | ⟨-, rfl⟩ | ⟨-, rfl⟩ | ⟨-, q, b, rfl⟩ | ⟨-, q, rfl⟩ := exec_cases hexec
  · exact ⟨h.ivAbsent, by simp, h.errCodeZero, h.errCodeAssigned⟩
  · exact ⟨by simp, h.unkeyed, h.errCodeZero, h.errCodeAssigned⟩
  · exact ⟨by simp, h.unkeyed, h.errCodeZero, h.errCodeAssigned⟩
  · exact h.congr ⟨rfl, rfl⟩ ⟨rfl, rfl⟩ ⟨rfl, rfl⟩
  · exact h.congr ⟨rfl, rfl⟩ ⟨rfl, rfl⟩ ⟨rfl, rfl⟩

theorem Inv.performEvent {s t : State} (h : s.Inv) {e : PortEvent}
    (hevent : performEvent e s = .next t) : t.Inv := by
  by_cases he : e = .reset
  · subst he
    cases hevent
    exact inv_reset.setPending _
  · obtain ⟨a, rfl⟩ | ⟨c, a, rfl⟩ | ⟨r, v, -, rfl⟩ | ⟨i, -, hexec⟩ := performEvent_cases he hevent
    · exact h.setResponse a
    · exact (h.raiseError c).setResponse a
    · exact (h.setResponse none).writeReg r v
    · exact (h.setResponse none).exec hexec

end State

/-- Settles O12: every event keeps the invariant, reset by establishing it anew. -/
theorem everyStepKeepsTheStateInvariant : Obligations.EveryStepKeepsTheStateInvariant := by
  intro s t h hs
  obtain ⟨-, rfl⟩ | ⟨e, rest, -, hevent⟩ := step_cases hs
  · exact h
  · exact (h.setPending rest).performEvent hevent

/-! ## The registers as bits, bytes and numbers (10_state.md R25, R30, R32) -/

/-- The bytes of a list of words stand eight to a word, in order. -/
theorem flatMap_le64_getElem? (words : List Word) (i : Nat) {k : Nat} (hk : k < 8) :
    (words.flatMap le64)[8 * i + k]? = words[i]?.map fun n => n.extractLsb' (8 * k) 8 := by
  induction words generalizing i with
  | nil => simp
  | cons n ns ih =>
    rw [List.flatMap_cons]
    cases i with
    | zero =>
      rw [Nat.mul_zero, Nat.zero_add, List.getElem?_append_left (by simpa using hk),
        le64_getElem? n hk]
      rfl
    | succ i =>
      have hskip : 8 * (i + 1) + k - 8 = 8 * i + k := by omega
      rw [List.getElem?_append_right (by simp; omega), le64_length, hskip, ih,
        List.getElem?_cons_succ]

/-- Settles O26: byte `j` is byte `j % 8` of word `j / 8`. -/
theorem keyBytesAreTheKeyRegisters : Obligations.KeyBytesAreTheKeyRegisters := by
  intro key
  refine ⟨by simp [keyBytesOf], fun j => ?_⟩
  have hbyte := flatMap_le64_getElem? key.toList (j / 8) (Nat.mod_lt j.val (by decide : 0 < 8))
  rw [Nat.div_add_mod] at hbyte
  have hword : j.val / 8 < 8 := by omega
  simpa [keyBytesOf, hword] using hbyte

/-- From bit 4 on, `STATUS` is `ERRCODE` extended with zeros. -/
theorem statusWord_getLsbD_add_four (s : State) (k : ℕ) :
    (statusWord s).getLsbD (k + 4) = s.errCode.getLsbD k := by
  by_cases hk : k < 4
  · simp [statusWord, show k + 4 < 64 by omega]
  · have hzero : s.errCode.getLsbD k = false := BitVec.getLsbD_of_ge _ _ (by omega)
    simp [statusWord, hzero]

/-- Settles O21: the four flags bit by bit, and `ERRCODE`, of 4 bits, from bit 4 on. -/
theorem statusWordHoldsTheFlags : Obligations.StatusWordHoldsTheFlags := by
  intro s
  refine ⟨by simp [statusWord], by simp [statusWord], by simp [statusWord], by simp [statusWord],
    ?_, ?_⟩
  · ext i hi
    rw [BitVec.getElem_extractLsb', Nat.add_comm, statusWord_getLsbD_add_four,
      BitVec.getLsbD_eq_getElem hi]
  · ext i hi
    have hpos : 8 + i = (i + 4) + 4 := by omega
    simp [hpos, statusWord_getLsbD_add_four]

/-- Settles O51: the signed reading of a 64-bit word lies from `-2^63` to below `2^63`, and `2^63 / 65536 = 2^47`. -/
theorem thresholdIsSignedFixedPoint : Obligations.ThresholdIsSignedFixedPoint := by
  refine ⟨fun v => ?_, ?_⟩
  · have hlow : (-(2 ^ 63) : ℝ) ≤ v.toInt := by exact_mod_cast v.le_toInt
    have hhigh : (v.toInt : ℝ) < 2 ^ 63 := by exact_mod_cast v.toInt_lt
    rw [thresholdValue, sint64_eq_toInt]
    refine ⟨rfl, ?_, ?_⟩ <;> linarith
  · have hreset : sint64 State.reset.thresh = 45875 := by decide
    simp [thresholdValue, hreset]

end Sys2Proof.Machine

/-! PROOFS. 20_memory.md: the register map, the accesses the host may make, and the order of events, settling O7, O8,
O14, O16 and O18. -/

namespace Sys2Proof.Machine

/-! ## The register map (20_memory.md R53, R54) -/

theorem regIndex_dout (w : Fin 4) : regIndex (.dout w) = 0x14 + BitVec.ofNat 8 w :=
  BitVec.ofNat_add ..

theorem regIndex_iv (w : Fin 4) : regIndex (.iv w) = 0x1C + BitVec.ofNat 8 w :=
  BitVec.ofNat_add ..

theorem regIndex_rk (r : Fin 24) (w : Fin 4) :
    regIndex (.rk r w) = 0x20 + 4 * BitVec.ofNat 8 r + BitVec.ofNat 8 w := by
  simp only [regIndex, BitVec.ofNat_add, BitVec.ofNat_mul]
  rfl

theorem regAt_eq_none_iff (idx : Index) :
    regAt idx = none ↔ (0x03 ≤ idx.toNat ∧ idx.toNat ≤ 0x07) ∨ 0x80 ≤ idx.toNat := by
  simp only [regAt, ite_eq_iff, reduceCtorEq, and_false, false_or, and_true]
  omega

/-- Settles O14: each row is a register at its own index, where the map is right (`regAt_regIndex`). -/
theorem registerMapIsAsTabulated : Obligations.RegisterMapIsAsTabulated := by
  refine ⟨rfl, rfl, rfl, fun i => ?_, fun w => ?_, fun w => ?_, fun w => ?_, fun w => ?_,
    fun r w => ?_, regAt_eq_none_iff⟩
  · rw [← regIndex_key, regAt_regIndex]
  · rw [← regIndex_din, regAt_regIndex]
  · rw [← regIndex_dout, regAt_regIndex]
  · rw [← regIndex_rkin, regAt_regIndex]
  · rw [← regIndex_iv, regAt_regIndex]
  · rw [← regIndex_rk, regAt_regIndex]

/-! ## Accesses that raise no error (20_memory.md R51, R52) -/

theorem hostRead_regIndex_of_readable {r : Reg} (h : access r ≠ .wo) (s : State) :
    hostRead (regIndex r) s = s.setResponse (some (readReg r s)) := by
  obtain ⟨r', hr, -, hread⟩ | ⟨r', hr, hwo, -⟩ | ⟨hr, -⟩ := hostRead_cases (regIndex r) s <;>
    rw [regAt_regIndex] at hr <;> cases hr
  · exact hread
  · exact absurd hwo h

theorem hostWrite_regIndex_of_writable {r : Reg} (hcmd : r ≠ .cmd) (h : access r ≠ .ro) (v : Word)
    (s : State) : hostWrite (regIndex r) v s = .next (writeReg r v s) := by
  obtain ⟨hr, -⟩ | ⟨r', hr, -, -, hwrite⟩ | ⟨r', hr, hro, -⟩ | ⟨hr, -⟩ :=
    hostWrite_cases (regIndex r) v s <;> rw [regAt_regIndex] at hr <;> cases hr
  · exact absurd rfl hcmd
  · exact hwrite
  · exact absurd hro h

/-- Settles O16: every row is a readable register read at its own index. -/
theorem readReturnsTheRegisterAndChangesNothing :
    Obligations.ReadReturnsTheRegisterAndChangesNothing := by
  intro s
  have hread (r : Reg) (h : access r ≠ .wo) := hostRead_regIndex_of_readable h s
  refine ⟨hread .status nofun, hread .thresh nofun, fun w => ?_, fun w => ?_,
    fun w => ?_, fun w => ?_, fun r w => ?_⟩
  · rw [← regIndex_din]; exact hread (.din w) nofun
  · rw [← regIndex_dout]; exact hread (.dout w) nofun
  · rw [← regIndex_rkin]; exact hread (.rkin w) nofun
  · rw [← regIndex_iv]; exact hread (.iv w) nofun
  · rw [← regIndex_rk]; exact hread (.rk r w) nofun

/-- Settles O18: every row is a writable register written at its own index. -/
theorem writeStoresTheWordAndNothingElse : Obligations.WriteStoresTheWordAndNothingElse := by
  intro v s
  have hwrite (r : Reg) (hcmd : r ≠ .cmd) (h : access r ≠ .ro) :=
    hostWrite_regIndex_of_writable hcmd h v s
  have hdin (w : Fin 4) := hwrite (.din w) nofun nofun
  have hrkin (w : Fin 4) := hwrite (.rkin w) nofun nofun
  refine ⟨hwrite .thresh nofun nofun, fun i => ?_, ⟨hdin 0, hdin 1, hdin 2, hdin 3⟩,
    ⟨hrkin 0, hrkin 1, hrkin 2, hrkin 3⟩⟩
  rw [← regIndex_key]
  exact hwrite (.key i) nofun nofun

/-! ## One event, whatever waits behind it (20_memory.md R61) -/

/-- Settles O7: the step performs the event at the head with the rest left waiting. -/
theorem stepPerformsTheOldestEvent : Obligations.StepPerformsTheOldestEvent :=
  ⟨fun _ => step_of_idle, fun _ _ _ hp => step_of_pending hp, fun _ _ _ _ hp => step_of_pending hp⟩

section
variable (es : List PortEvent)

theorem readReg_setPending (r : Reg) (s : State) : readReg r (s.setPending es) = readReg r s := by
  cases r <;> rfl

theorem hostRead_setPending (idx : Index) (s : State) :
    hostRead idx (s.setPending es) = (hostRead idx s).setPending es := by
  simp only [hostRead, readReg_setPending]
  cases regAt idx with
  | none => rfl
  | some r => cases h : access r <;> simp only [h] <;> rfl

variable {s t : State}

theorem exec_setPending {i : Instr} (h : exec i s = .next t) :
    exec i (s.setPending es) = .next (t.setPending es) := by
  cases i <;> obtain rfl := Host.Outcome.next.inj h <;> rfl

theorem perform_setPending {v : Word} (h : perform v s = .next t) :
    perform v (s.setPending es) = .next (t.setPending es) := by
  unfold perform at h ⊢
  cases hv : decode v with
  | ok i => rw [hv] at h; exact exec_setPending es h
  | error e => rw [hv] at h; cases h; rfl

theorem hostWrite_setPending {idx : Index} {v : Word} (h : hostWrite idx v s = .next t) :
    hostWrite idx v (s.setPending es) = .next (t.setPending es) := by
  unfold hostWrite at h ⊢
  cases hr : regAt idx with
  | none => rw [hr] at h; cases h; rfl
  | some r =>
    rw [hr] at h
    cases r with
    | cmd => exact perform_setPending es h
    | _ => cases h; rfl

/-- An event neither reads nor changes the list of events that wait behind it. -/
theorem performEvent_setPending {e : PortEvent} (h : performEvent e s = .next t) :
    performEvent e (s.setPending es) = .next (t.setPending es) := by
  cases e with
  | read idx =>
    obtain rfl := Host.Outcome.next.inj h
    exact congrArg _ (hostRead_setPending es idx (s.setResponse none))
  | write idx v => exact hostWrite_setPending es h
  | reset => cases h; rfl

theorem step_setPending_cons {e : PortEvent} (h : performEvent e s = .next t) :
    step (s.setPending (e :: es)) = .next (t.setPending es) := by
  rw [step_of_pending (State.setPending_pending s (e :: es))]
  change performEvent e (s.setPending es) = _
  exact performEvent_setPending es h

end

theorem hostWrite_completes (idx : Index) (v : Word) (s : State) :
    ∃ t, hostWrite idx v s = .next t := by
  obtain ⟨-, h⟩ | ⟨r, -, -, -, h⟩ | ⟨r, -, -, h⟩ | ⟨-, h⟩ := hostWrite_cases idx v s <;> rw [h]
  · obtain ⟨i, -, hp⟩ | ⟨_, -, hp⟩ := perform_cases v s <;> rw [hp]
    · exact exec_completes i s
    · exact ⟨_, rfl⟩
  all_goals exact ⟨_, rfl⟩

theorem performEvent_completes (e : PortEvent) (s : State) : ∃ t, performEvent e s = .next t := by
  cases e with
  | read idx => exact ⟨_, rfl⟩
  | write idx v => exact hostWrite_completes idx v _
  | reset => exact ⟨_, rfl⟩

/-! ## Many events, first to last (20_memory.md R61, R62) -/

theorem performAll_cons {e : PortEvent} {s t : State} (h : performEvent e s = .next t)
    (es : List PortEvent) : performAll (e :: es) s = performAll es t := by
  simp only [performAll, h]

theorem core_run_succ {s t : State} (h : step s = .next t) (n : ℕ) :
    Host.Core.run Sys2Proof.core (n + 1) s = Host.Core.run Sys2Proof.core n t := by
  have hcore : Sys2Proof.core.step s = .next t := h
  simp only [Host.Core.run, hcore]

/-- Settles O8, by induction on the events: the first step performs the first event, whose effect is the same
whatever waits behind it. -/
theorem runAppliesEventsFirstToLast : Obligations.RunAppliesEventsFirstToLast := by
  intro es later s
  induction es generalizing s with
  | nil => rfl
  | cons e es ih =>
    obtain ⟨t, ht⟩ := performEvent_completes e s
    rw [performAll_cons (performEvent_setPending later ht)]
    exact (core_run_succ (step_setPending_cons (es ++ later) ht) es.length).trans (ih t)

end Sys2Proof.Machine

/-! PROOFS. 30_encoding.md: the decoder, the encoder and the table of command words, an illegal word, and the
pseudo-operations, settling O1, O2, O3, O4, O6 and O60. -/

namespace Sys2Proof.Machine

/-! ## The decoder and the encoder (30_encoding.md R82, R83) -/

@[simp] theorem decode_encode (i : Instr) : decode (encode i) = .ok i := by
  cases i <;> rfl

theorem encode_injective : Function.Injective encode := fun i i' h => by
  simpa [h] using (decode_encode i).symm

theorem decode_eq_ok_iff {v : Word} {i : Instr} : decode v = .ok i ↔ v = encode i := by
  refine ⟨eq_encode_of_decode, ?_⟩
  rintro rfl
  exact decode_encode i

theorem exists_decode_eq_error_iff {v : Word} :
    (∃ e, decode v = .error e) ↔ ∀ i, v ≠ encode i := by
  simp only [ne_eq, ← decode_eq_ok_iff]
  cases decode v with
  | ok i => simp
  | error e => simp

/-- Settles O1: decoding inverts encoding on both sides, so what is refused is what is no command's word. -/
theorem decodeAcceptsExactlyTheEncodedWords : Obligations.DecodeAcceptsExactlyTheEncodedWords :=
  ⟨fun i _ => decode_encode i, fun _ _ => eq_encode_of_decode,
    fun _ => exists_decode_eq_error_iff.mpr⟩

/-- Settles O3: the nine words are `encode` written out. -/
theorem writtenOutWordsDecode : Obligations.WrittenOutWordsDecode :=
  ⟨decode_encode .keysetup, decode_encode .ivset, decode_encode .ivclr, decode_encode .enc,
    decode_encode .dec, decode_encode .enca, decode_encode .decx, decode_encode .rnde,
    decode_encode .rndd, rfl, rfl, rfl⟩

/-! ## The machine-readable table (30_encoding.md R89) -/

/-- The table has one row for each command: the command's word under a full mask. -/
theorem mem_opcodeTable_iff {i : Instr} {word mask : Word} :
    ⟨i, word, mask⟩ ∈ opcodeTable ↔ word = encode i ∧ mask = 0xFFFFFFFFFFFFFFFF := by
  constructor
  · have hrows : ∀ r ∈ opcodeTable, r.matchWord = encode r.instr ∧ r.mask = 0xFFFFFFFFFFFFFFFF := by
      decide
    exact hrows ⟨i, word, mask⟩
  · rintro ⟨rfl, rfl⟩
    cases i <;> decide

theorem and_mask_eq_matchWord_iff {r : OpcodeRow} {v : Word} (h : r ∈ opcodeTable) :
    v &&& r.mask = r.matchWord ↔ v = encode r.instr := by
  obtain ⟨hmatch, hmask⟩ := mem_opcodeTable_iff.mp h
  have hfull : v &&& 0xFFFFFFFFFFFFFFFF = v := BitVec.and_allOnes
  rw [hmask, hmatch, hfull]

theorem selects_iff {r : OpcodeRow} {v : Word} (h : r ∈ opcodeTable) :
    r.selects v = true ↔ v = encode r.instr :=
  beq_iff_eq.trans (and_mask_eq_matchWord_iff h)

theorem wordLegal_iff (v : Word) : WordLegal v = true ↔ ∃ i, v = encode i := by
  rw [WordLegal, List.any_eq_true]
  constructor
  · rintro ⟨r, hr, hselects⟩
    exact ⟨r.instr, (selects_iff hr).mp hselects⟩
  · rintro ⟨i, hi⟩
    have hrow : ⟨i, encode i, 0xFFFFFFFFFFFFFFFF⟩ ∈ opcodeTable := mem_opcodeTable_iff.mpr ⟨rfl, rfl⟩
    exact ⟨_, hrow, (selects_iff hrow).mpr hi⟩

theorem opcodeRow_eq_of_instr_eq {r r' : OpcodeRow} (hr : r ∈ opcodeTable) (hr' : r' ∈ opcodeTable)
    (h : r.instr = r'.instr) : r = r' := by
  obtain ⟨i, word, mask⟩ := r
  obtain ⟨i', word', mask'⟩ := r'
  obtain ⟨rfl, rfl⟩ := mem_opcodeTable_iff.mp hr
  obtain ⟨rfl, rfl⟩ := mem_opcodeTable_iff.mp hr'
  obtain rfl : i = i' := h
  rfl

/-- Settles O2: a row and the decoder each pick a command by equality with its word. -/
theorem decoderAgreesWithOpcodeTable : Obligations.DecoderAgreesWithOpcodeTable := by
  refine ⟨fun v r hr => ?_, fun v r r' hr hr' h h' => ?_, fun v => ?_, fun r hr => ?_⟩
  · rw [and_mask_eq_matchWord_iff hr, decode_eq_ok_iff]
  · rw [selects_iff hr] at h
    rw [selects_iff hr'] at h'
    exact opcodeRow_eq_of_instr_eq hr hr' (encode_injective (h.symm.trans h'))
  · rw [exists_decode_eq_error_iff, ← Bool.not_eq_true, wordLegal_iff, not_exists]
  · obtain ⟨-, hmask⟩ := mem_opcodeTable_iff.mp hr
    exact hmask

/-! ## A write to `CMD` (30_encoding.md R82, R84) -/

theorem hostWrite_cmd (v : Word) (s : State) : hostWrite 0x00 v s = perform v s := rfl

theorem encode_bytes (i : Instr) :
    (encode i).toNat / 256 = 0 ∧
      (encode i).toNat % 256 ∈ [0x01, 0x02, 0x03, 0x10, 0x11, 0x12, 0x13, 0x20, 0x21] := by
  cases i <;> decide

/-- Settles O4: no command's word has such bits, so the word is refused, and all a refusal does is the error action. -/
theorem illegalWordRaisesIllcmdAndNothingElse :
    Obligations.IllegalWordRaisesIllcmdAndNothingElse := by
  intro v s hillegal
  rw [hostWrite_cmd]
  obtain ⟨i, hi, -⟩ | ⟨_, -, hp⟩ := perform_cases v s
  · obtain rfl := eq_encode_of_decode hi
    obtain ⟨hupper, hop⟩ := encode_bytes i
    exact absurd hillegal (by simp [hupper, hop])
  · exact hp

theorem performEvent_command (i : Instr) (s : State) :
    performEvent (.write 0x00 (encode i)) s = exec i (s.setResponse none) :=
  (hostWrite_cmd _ _).trans (by simp [perform])

/-- The 64 bits of a word are the whole of it. -/
theorem ofNat_toNat_mod (v : Word) : BitVec.ofNat 64 (v.toNat % 2 ^ 64) = v := by
  rw [Nat.mod_eq_of_lt v.isLt, BitVec.ofNat_toNat, BitVec.setWidth_eq]

/-- Settles O6: the word waits at the head as a write to `CMD`, which is where the step finds it. -/
theorem fetchedWordRunsItsCommand : Obligations.FetchedWordRunsItsCommand := by
  refine ⟨fun s i => ?_, fun v => ?_⟩
  · rw [step_of_pending (withFetchWord_pending s _ _), ofNat_toNat_mod, performEvent_command]
    rfl
  · rw [decodeTableWord, if_pos (Nat.mod_lt _ (by decide)), ofNat_toNat_mod]

/-! ## Pseudo-operations (30_encoding.md R88) -/

theorem performAll_append {es es' : List PortEvent} {s t : State} (h : performAll es s = .next t) :
    performAll (es ++ es') s = performAll es' t := by
  induction es generalizing s with
  | nil => cases h; rfl
  | cons e es ih =>
    obtain ⟨u, hu⟩ := performEvent_completes e s
    rw [performAll_cons hu] at h
    rw [List.cons_append, performAll_cons hu, ih h]

theorem writeReg_setResponse (r : Reg) (v : Word) (s : State) (a : Option Word) :
    writeReg r v (s.setResponse a) = (writeReg r v s).setResponse a := by
  cases r <;> rfl

/-- Register writes, first to last. -/
def writeRegs (ws : List (Reg × Word)) (s : State) : State :=
  ws.foldl (fun t w => writeReg w.1 w.2 t) s

/-- The port events that ask for these register writes. -/
def writeEvents (ws : List (Reg × Word)) : List PortEvent :=
  ws.map fun w => .write (regIndex w.1) w.2

/-- An event clears the answer of the one before it. -/
theorem performAll_cons_setResponse (e : PortEvent) (es : List PortEvent) (s : State)
    (a : Option Word) : performAll (e :: es) (s.setResponse a) = performAll (e :: es) s := by
  cases e <;> rfl

theorem performAll_write_cons {r : Reg} (hcmd : r ≠ .cmd) (hro : access r ≠ .ro) (v : Word)
    (es : List PortEvent) (s : State) :
    performAll (.write (regIndex r) v :: es) s =
      performAll es ((writeReg r v s).setResponse none) := by
  have hevent : performEvent (.write (regIndex r) v) s = .next (writeReg r v (s.setResponse none)) :=
    hostWrite_regIndex_of_writable hcmd hro v _
  rw [performAll_cons hevent, writeReg_setResponse]

/-- Writes to writable registers do what the register writes do one after another. -/
theorem performAll_writeEvents {ws : List (Reg × Word)} (hne : ws ≠ [])
    (h : ∀ w ∈ ws, w.1 ≠ .cmd ∧ access w.1 ≠ .ro) (s : State) :
    performAll (writeEvents ws) s = .next ((writeRegs ws s).setResponse none) := by
  induction ws generalizing s with
  | nil => exact absurd rfl hne
  | cons w ws ih =>
    obtain ⟨⟨hcmd, hro⟩, hws⟩ := List.forall_mem_cons.mp h
    refine (performAll_write_cons hcmd hro w.2 (writeEvents ws) s).trans ?_
    cases ws with
    | nil => rfl
    | cons w' ws' => exact (performAll_cons_setResponse _ _ _ _).trans (ih nofun hws _)

theorem performAll_writesFrom_din (q : Quad) (s : State) :
    performAll (writesFrom 0x10 (quadWords q)) s = .next ((s.setDin q).setResponse none) :=
  performAll_writeEvents
    (ws := [(.din 0, q.w0), (.din 1, q.w1), (.din 2, q.w2), (.din 3, q.w3)])
    nofun (by simp [access]) s

theorem performAll_writesFrom_rkin (q : Quad) (s : State) :
    performAll (writesFrom 0x18 (quadWords q)) s = .next ((s.setRkin q).setResponse none) :=
  performAll_writeEvents
    (ws := [(.rkin 0, q.w0), (.rkin 1, q.w1), (.rkin 2, q.w2), (.rkin 3, q.w3)])
    nofun (by simp [access]) s

theorem performAll_write_thresh (v : Word) (s : State) :
    performAll [.write 0x02 v] s = .next ((s.setThresh v).setResponse none) :=
  performAll_write_cons (r := .thresh) nofun nofun v [] s

/-- Writes of these words of `KEY`. -/
def keyWrites (indices : List (Fin 8)) (key : Vector Word 8) : List (Reg × Word) :=
  indices.map fun i => (.key i, key[i])

theorem writeRegs_keyWrites (indices : List (Fin 8)) (key : Vector Word 8) (s : State) :
    writeRegs (keyWrites indices key) s =
      s.setKey (Vector.ofFn fun j => if j ∈ indices then key[j] else s.key[j]) := by
  induction indices generalizing s with
  | nil => simp [keyWrites, writeRegs, State.setKey]
  | cons i indices ih =>
    refine (ih (s.setKey (s.key.set i key[i]))).trans (congrArg s.setKey ?_)
    congr 1
    funext j
    rcases eq_or_ne j i with rfl | hne
    · simp
    · have hval : (i : ℕ) ≠ j := fun h => hne (Fin.ext h.symm)
      simp [hne, hval]

theorem writeEvents_keyWrites_words8 (bytes : List Byte) :
    writeEvents (keyWrites (List.finRange 8) (words8 bytes)) = writesFrom 0x08 (words8 bytes).toList := rfl

theorem performAll_writesFrom_words8 (bytes : List Byte) (s : State) :
    performAll (writesFrom 0x08 (words8 bytes).toList) s =
      .next ((s.setKey (words8 bytes)).setResponse none) := by
  rw [← writeEvents_keyWrites_words8,
    performAll_writeEvents (by simp [keyWrites]) (by simp [keyWrites, access]), writeRegs_keyWrites]
  simp

/-- The bytes of the eight words are the string cut at every multiple of 8. -/
theorem keyBytesOf_words8 (bytes : List Byte) (h : bytes.length = 64) :
    keyBytesOf (words8 bytes) = bytes := by
  have hcut : bytes.take 64 = bytes.take 8 ++ (bytes.drop 8).take 8 ++ (bytes.drop 16).take 8 ++
      (bytes.drop 24).take 8 ++ (bytes.drop 32).take 8 ++ (bytes.drop 40).take 8 ++
      (bytes.drop 48).take 8 ++ (bytes.drop 56).take 8 := by
    simp only [← List.take_add]
  rw [List.take_of_length_le h.le] at hcut
  have hwords : (words8 bytes).toList = [wordAt bytes 0, wordAt bytes 1, wordAt bytes 2,
      wordAt bytes 3, wordAt bytes 4, wordAt bytes 5, wordAt bytes 6, wordAt bytes 7] := rfl
  simpa (disch := omega) [keyBytesOf, hwords, le64_wordAt] using hcut.symm

/-- Settles O60: each expansion is writes to writable registers, whose effect is theirs one by one; the bytes loaded
are read back by the inverse laws of bytes and words. -/
theorem pseudoOperationsLoadTheirRegisters : Obligations.PseudoOperationsLoadTheirRegisters := by
  intro s
  refine ⟨fun bytes h => ?_, fun bytes h => ?_, fun q => ?_, fun q => ?_, fun q => ?_, fun n => ?_⟩
  · exact ⟨words8 bytes, keyBytesOf_words8 bytes h, performAll_writesFrom_words8 _ s⟩
  · exact ⟨words4 bytes, bytes32_words4 bytes h, performAll_writesFrom_din _ s⟩
  · exact performAll_writesFrom_din q s
  · exact performAll_writesFrom_rkin q s
  · refine (performAll_append (performAll_writesFrom_din q s)).trans ?_
    rw [performAll_cons (performEvent_command .ivset _)]
    rfl
  · exact performAll_write_thresh _ s

end Sys2Proof.Machine

/-! PROOFS. 40_round_transform.md: the forward and the inverse-direction round, what they do to each other, and the
commands RNDE and RNDD, settling O28 to O36. -/

namespace Sys2Proof.Machine

/-! ## Exclusive OR of words and of 4-tuples (00_scope.md R15) -/

@[simp] theorem word_xor_cancel_right (a b : Word) : a ^^^ b ^^^ b = a := by
  rw [BitVec.xor_assoc, BitVec.xor_self, BitVec.xor_zero]

@[simp] theorem word_xor_cancel_left (a b : Word) : a ^^^ (a ^^^ b) = b := by
  rw [← BitVec.xor_assoc, BitVec.xor_self, BitVec.zero_xor]

theorem word_xor_left_comm (a b c : Word) : a ^^^ (b ^^^ c) = b ^^^ (a ^^^ c) := by
  rw [← BitVec.xor_assoc, BitVec.xor_comm a, BitVec.xor_assoc]

theorem word_xor_right_comm (a b c : Word) : a ^^^ b ^^^ c = a ^^^ c ^^^ b := by
  rw [BitVec.xor_assoc, BitVec.xor_comm b, BitVec.xor_assoc]

theorem word_xor_eq_iff (a b c : Word) : a ^^^ b = c ↔ a = c ^^^ b := by
  rw [← BitVec.xor_left_inj b, word_xor_cancel_right]

theorem word_xor_eq_xor_comm (a b c d : Word) : a ^^^ b = c ^^^ d ↔ a ^^^ c = b ^^^ d := by
  rw [word_xor_eq_iff a b, word_xor_eq_iff a c, BitVec.xor_assoc, BitVec.xor_comm c, BitVec.xor_comm d b]

theorem quad_eq_iff {p q : Quad} :
    p = q ↔ p.w0 = q.w0 ∧ p.w1 = q.w1 ∧ p.w2 = q.w2 ∧ p.w3 = q.w3 := by
  cases p; cases q; simp

@[simp] theorem quadXor_quadXor_cancel (x d : Quad) : quadXor (quadXor x d) d = x := by
  rw [quadXor_assoc, quadXor_self, quadXor_zero]

theorem quadXor_bijective (d : Quad) : Function.Bijective fun x => quadXor x d :=
  Function.Involutive.bijective fun x => quadXor_quadXor_cancel x d

theorem quadXor_eq_iff {x c d : Quad} : quadXor x d = c ↔ x = quadXor c d :=
  ⟨fun h => by rw [← h, quadXor_quadXor_cancel], fun h => by rw [h, quadXor_quadXor_cancel]⟩

/-! ## Steps 1 to 3 and their inverses (40_round_transform.md R101 to R103, R107) -/

theorem quadSub_quadAdd (x k : Quad) : quadSub (quadAdd x k) k = x := by
  simp [quadSub, quadAdd]

theorem quadAdd_quadSub (x k : Quad) : quadAdd (quadSub x k) k = x := by
  simp [quadSub, quadAdd]

theorem invMixA_mixA (x : Quad) : invMixA (mixA x) = x := by
  simp [invMixA, mixA, rotr_rotl]

theorem mixA_invMixA (x : Quad) : mixA (invMixA x) = x := by
  simp [invMixA, mixA, rotl_rotr]

theorem invMixB_mixB (x : Quad) : invMixB (mixB x) = x := by
  simp [invMixB, mixB, rotr_rotl]

theorem mixB_invMixB (x : Quad) : mixB (invMixB x) = x := by
  simp [invMixB, mixB, rotl_rotr]

@[simp] theorem invPreMix_preMix (s k : Quad) : invPreMix (preMix s k) k = s := by
  rw [invPreMix, preMix, invMixB_mixB, invMixA_mixA, quadSub_quadAdd]

@[simp] theorem preMix_invPreMix (u k : Quad) : preMix (invPreMix u k) k = u := by
  rw [preMix, invPreMix, quadAdd_quadSub, mixA_invMixA, mixB_invMixB]

theorem preMix_surjective (k : Quad) : Function.Surjective fun s => preMix s k :=
  fun u => ⟨invPreMix u k, preMix_invPreMix u k⟩

theorem invPreMix_bijective (k : Quad) : Function.Bijective fun u => invPreMix u k :=
  Function.bijective_iff_has_inverse.mpr
    ⟨fun s => preMix s k, fun u => preMix_invPreMix u k, fun s => invPreMix_preMix s k⟩

theorem invPreMix_eq_iff {u s k : Quad} : invPreMix u k = s ↔ u = preMix s k :=
  ⟨fun h => by rw [← h, preMix_invPreMix], fun h => by rw [h, invPreMix_preMix]⟩

/-- Settles O30: each assignment of steps 1 to 3 is undone by its counterpart, in the reverse order. -/
theorem preMixIsUndoneByInvPreMix : Obligations.PreMixIsUndoneByInvPreMix :=
  ⟨invPreMix_preMix, preMix_invPreMix, quadXor_quadXor_cancel⟩

/-! ## Diffusion in closed form (40_round_transform.md R104, R109) -/

theorem diffuse_eq (u : Quad) : diffuse u =
    ⟨u.w0 ^^^ u.w1 ^^^ u.w3, u.w0 ^^^ u.w3, u.w0 ^^^ u.w3, u.w0 ^^^ u.w2 ^^^ u.w3⟩ := by
  simp [diffuse, BitVec.xor_comm, word_xor_left_comm]

theorem invDiffuse_eq (z : Quad) : invDiffuse z =
    ⟨z.w0 ^^^ z.w1 ^^^ z.w3, z.w0 ^^^ z.w1, z.w2 ^^^ z.w3, z.w0 ^^^ z.w2 ^^^ z.w3⟩ := by
  simp [invDiffuse, BitVec.xor_comm, word_xor_left_comm]

/-- Settles O28: the model's steps are those of the listing, its rotations the library's; the closed form is the
XOR of the words each update collects. -/
theorem roundFwdFollowsTheFiveSteps : Obligations.RoundFwdFollowsTheFiveSteps :=
  ⟨fun s k => by simp [preMix, mixA, mixB, quadAdd, rotl_eq_rotateLeft],
    fun _ => rfl, diffuse_eq, fun _ _ _ => rfl⟩

/-- Settles O29: the model's steps are those of the listing, its rotations the library's. -/
theorem roundInvFollowsTheListing : Obligations.RoundInvFollowsTheListing :=
  ⟨fun d s k => by
      simp [roundInv, invPreMix, invDiffuse, invMixA, invMixB, quadXor, quadSub, rotr_eq_rotateRight],
    invDiffuse_eq, fun _ _ _ => rfl⟩

/-! ## Sets of states counted by the words that range freely -/

theorem card_word : Nat.card Word = 2 ^ 64 := by
  rw [Nat.card_congr BitVec.equivFin.toEquiv, Nat.card_fin]

theorem ncard_eq_card_of_injective {α : Type} {f : α → Quad} (hf : Function.Injective f)
    {states : Set Quad} (h : ∀ q, q ∈ states ↔ ∃ a, f a = q) : states.ncard = Nat.card α := by
  have hrange : states = Set.range f := Set.ext h
  rw [hrange, ← Nat.card_coe_set_eq, Nat.card_range_of_injective hf]

/-! ## The image of the forward round (40_round_transform.md R108 (a)) -/

theorem exists_diffuse_eq_iff (y : Quad) : (∃ u, diffuse u = y) ↔ y.w1 = y.w2 := by
  constructor
  · rintro ⟨u, rfl⟩
    rw [diffuse_eq]
  · intro h
    refine ⟨⟨y.w1, y.w0 ^^^ y.w1, y.w3 ^^^ y.w1, 0⟩, ?_⟩
    simp [diffuse_eq, quad_eq_iff, h, BitVec.xor_comm]

theorem roundFwd_eq_iff {d s k c : Quad} :
    roundFwd d s k = c ↔ diffuse (preMix s k) = quadXor c d := quadXor_eq_iff

theorem exists_roundFwd_eq_iff (d k c : Quad) :
    (∃ s, roundFwd d s k = c) ↔ c.w1 ^^^ c.w2 = d.w1 ^^^ d.w2 :=
  calc (∃ s, roundFwd d s k = c)
    _ ↔ ∃ s, diffuse (preMix s k) = quadXor c d := exists_congr fun _ => roundFwd_eq_iff
    _ ↔ ∃ u, diffuse u = quadXor c d :=
      ((preMix_surjective k).exists (p := fun u => diffuse u = quadXor c d)).symm
    _ ↔ c.w1 ^^^ d.w1 = c.w2 ^^^ d.w2 := exists_diffuse_eq_iff _
    _ ↔ c.w1 ^^^ c.w2 = d.w1 ^^^ d.w2 := word_xor_eq_xor_comm ..

/-- The states whose words 1 and 2 differ by `a`, from their words 0, 2 and 3. -/
def withWordsDiffering (a : Word) (p : Word × Word × Word) : Quad := ⟨p.1, a ^^^ p.2.1, p.2.1, p.2.2⟩

theorem withWordsDiffering_injective (a : Word) : Function.Injective (withWordsDiffering a) := by
  rintro ⟨p0, p2, p3⟩ ⟨q0, q2, q3⟩ h
  simp_all [withWordsDiffering]

theorem xor_w1_w2_eq_iff (a : Word) (q : Quad) :
    q.w1 ^^^ q.w2 = a ↔ ∃ p, withWordsDiffering a p = q := by
  rw [word_xor_eq_iff]
  constructor
  · intro h
    exact ⟨(q.w0, q.w2, q.w3), quad_eq_iff.mpr ⟨rfl, h.symm, rfl, rfl⟩⟩
  · rintro ⟨p, rfl⟩
    rfl

/-- Settles O31: diffusion leaves words 1 and 2 equal and the others free, the constants come after it, and the
pre-mix before it reaches every state; the image is given by its words 0, 2 and 3. -/
theorem forwardRoundReachesOnlyItsImage : Obligations.ForwardRoundReachesOnlyItsImage := by
  intro d k
  refine ⟨exists_roundFwd_eq_iff d k, ?_⟩
  have hinj := withWordsDiffering_injective (d.w1 ^^^ d.w2)
  refine (ncard_eq_card_of_injective hinj fun c => ?_).trans ?_
  · exact (exists_roundFwd_eq_iff d k c).trans (xor_w1_w2_eq_iff _ c)
  · simp only [Nat.card_prod, card_word, ← pow_add]

/-! ## Collisions of the forward round (40_round_transform.md R108 (b) to (d)) -/

/-- The state `u` with one word XORed into its words 0 and 3. -/
def xorOuter (u : Quad) (e : Word) : Quad := ⟨u.w0 ^^^ e, u.w1, u.w2, u.w3 ^^^ e⟩

theorem xorOuter_injective (u : Quad) : Function.Injective (xorOuter u) := by
  intro e e' h
  simpa [xorOuter] using h

theorem diffuse_eq_diffuse_iff (u u' : Quad) : diffuse u = diffuse u' ↔ ∃ e, u' = xorOuter u e := by
  constructor
  · intro h
    simp only [diffuse_eq, Quad.mk.injEq] at h
    obtain ⟨h0, houter, -, h3⟩ := h
    rw [word_xor_right_comm, word_xor_right_comm u'.w0, houter, BitVec.xor_right_inj] at h0 h3
    refine ⟨u.w0 ^^^ u'.w0, quad_eq_iff.mpr ⟨?_, h0.symm, h3.symm, ?_⟩⟩
    · simp [xorOuter]
    · simp [xorOuter, (word_xor_eq_xor_comm ..).mp houter]
  · rintro ⟨e, rfl⟩
    simp [diffuse_eq, xorOuter, BitVec.xor_assoc, BitVec.xor_comm, word_xor_left_comm]

theorem roundFwd_eq_roundFwd_iff (d k s' s : Quad) :
    roundFwd d s' k = roundFwd d s k ↔ ∃ e, invPreMix (xorOuter (preMix s k) e) k = s' := by
  rw [roundFwd_eq_iff, roundFwd, quadXor_quadXor_cancel, eq_comm, diffuse_eq_diffuse_iff]
  exact exists_congr fun e => by rw [invPreMix_eq_iff, eq_comm]

/-- Settles O32: the closed form determines words 1 and 2 of its argument and the XOR of words 0 and 3, and the
pre-mix carries a fibre of it to one of the round. -/
theorem forwardRoundOutputsHave2To64Preimages : Obligations.ForwardRoundOutputsHave2To64Preimages := by
  refine ⟨diffuse_eq_diffuse_iff, fun d s k => ?_⟩
  have hinj := (invPreMix_bijective k).injective.comp (xorOuter_injective (preMix s k))
  exact (ncard_eq_card_of_injective hinj fun s' => roundFwd_eq_roundFwd_iff d k s' s).trans card_word

theorem roundFwd_not_injective (d k : Quad) : ¬ Function.Injective fun s => roundFwd d s k := by
  intro hinj
  have hcollide :
      roundFwd d (invPreMix (xorOuter Quad.zero 1) k) k = roundFwd d (invPreMix Quad.zero k) k :=
    (roundFwd_eq_roundFwd_iff ..).mpr ⟨1, by rw [preMix_invPreMix]⟩
  exact absurd ((invPreMix_bijective k).injective (hinj hcollide)) (by decide)

theorem roundFwd_of_diffuse_preMix {d s k y : Quad} (h : diffuse (preMix s k) = y) :
    roundFwd d s k = quadXor y d := by
  rw [roundFwd, h]

theorem quadXor_zero_left (d : Quad) : quadXor ⟨0, 0, 0, 0⟩ d = d :=
  (quadXor_comm _ d).trans (quadXor_zero d)

theorem roundFwd_zero_zero (d : Quad) : roundFwd d ⟨0, 0, 0, 0⟩ ⟨0, 0, 0, 0⟩ = d :=
  (roundFwd_of_diffuse_preMix (by decide)).trans (quadXor_zero_left d)

/-- Settles O33: the two states of R108 (c) diffuse to zero; a function that undid the round would make it
injective. -/
theorem forwardRoundHasNoInverse : Obligations.ForwardRoundHasNoInverse := by
  refine ⟨fun d => ⟨roundFwd_zero_zero d, ?_⟩, ?_⟩
  · exact (roundFwd_of_diffuse_preMix (by decide)).trans (quadXor_zero_left d)
  · rintro d k ⟨g, hg⟩
    exact roundFwd_not_injective d k (Function.LeftInverse.injective hg)

/-! ## The two rounds after each other (40_round_transform.md R112) -/

/-- The inverse of the matrix of `invDiffuse`. -/
def undoInvDiffuse (v : Quad) : Quad :=
  ⟨v.w2 ^^^ v.w3, v.w1 ^^^ v.w2 ^^^ v.w3, v.w0 ^^^ v.w1 ^^^ v.w2, v.w0 ^^^ v.w1⟩

theorem invDiffuse_bijective : Function.Bijective invDiffuse := by
  refine Function.bijective_iff_has_inverse.mpr ⟨undoInvDiffuse, fun z => ?_, fun v => ?_⟩
  · simp [invDiffuse_eq, undoInvDiffuse, BitVec.xor_assoc, BitVec.xor_comm, word_xor_left_comm]
  · simp [invDiffuse_eq, undoInvDiffuse, BitVec.xor_assoc, BitVec.xor_comm, word_xor_left_comm]

theorem roundInv_bijective (d k : Quad) : Function.Bijective fun s => roundInv d s k :=
  (invPreMix_bijective k).comp (invDiffuse_bijective.comp (quadXor_bijective d))

theorem invDiffuse_diffuse (u : Quad) : invDiffuse (diffuse u) =
    ⟨u.w0 ^^^ u.w1 ^^^ u.w2 ^^^ u.w3, u.w1, u.w2, u.w0 ^^^ u.w1 ^^^ u.w2 ^^^ u.w3⟩ := by
  simp [invDiffuse_eq, diffuse_eq, BitVec.xor_assoc, BitVec.xor_comm, word_xor_left_comm]

theorem diffuse_invDiffuse (z : Quad) : diffuse (invDiffuse z) =
    ⟨z.w0 ^^^ z.w2, z.w1 ^^^ z.w2, z.w1 ^^^ z.w2, z.w1 ^^^ z.w3⟩ := by
  simp [invDiffuse_eq, diffuse_eq, BitVec.xor_assoc, BitVec.xor_comm, word_xor_left_comm]

theorem roundInv_roundFwd (d s k : Quad) :
    roundInv d (roundFwd d s k) k = invPreMix (invDiffuse (diffuse (preMix s k))) k := by
  rw [roundInv, roundFwd, quadXor_quadXor_cancel]

theorem roundFwd_roundInv (d c k : Quad) :
    roundFwd d (roundInv d c k) k = quadXor (diffuse (invDiffuse (quadXor c d))) d := by
  rw [roundFwd, roundInv, preMix_invPreMix]

theorem invDiffuse_diffuse_eq_self_iff (u : Quad) :
    invDiffuse (diffuse u) = u ↔ u.w0 = u.w3 ∧ u.w3 = u.w1 ^^^ u.w2 := by
  simp only [invDiffuse_diffuse, quad_eq_iff]
  constructor
  · rintro ⟨h0, -, -, h3⟩
    grind
  · rintro ⟨h03, h3⟩
    grind

theorem diffuse_invDiffuse_eq_self_iff (z : Quad) :
    diffuse (invDiffuse z) = z ↔ z.w1 = 0 ∧ z.w2 = 0 := by
  simp only [diffuse_invDiffuse, quad_eq_iff]
  constructor
  · rintro ⟨-, h1, h2, -⟩
    grind
  · rintro ⟨h1, h2⟩
    simp [h1, h2]

theorem roundInv_roundFwd_eq_self_iff (d s k : Quad) :
    roundInv d (roundFwd d s k) k = s ↔
      (preMix s k).w0 = (preMix s k).w3 ∧ (preMix s k).w3 = (preMix s k).w1 ^^^ (preMix s k).w2 := by
  rw [roundInv_roundFwd, invPreMix_eq_iff, invDiffuse_diffuse_eq_self_iff]

theorem roundFwd_roundInv_eq_self_iff (d c k : Quad) :
    roundFwd d (roundInv d c k) k = c ↔ c.w1 = d.w1 ∧ c.w2 = d.w2 := by
  rw [roundFwd_roundInv, quadXor_eq_iff, diffuse_invDiffuse_eq_self_iff]
  exact and_congr BitVec.xor_eq_zero_iff BitVec.xor_eq_zero_iff

/-- The 4-tuples that `invDiffuse` after `diffuse` keeps, from their words 1 and 2. -/
def roundTripFixed (p : Word × Word) : Quad := ⟨p.1 ^^^ p.2, p.1, p.2, p.1 ^^^ p.2⟩

theorem roundTripFixed_injective : Function.Injective roundTripFixed := by
  rintro ⟨p1, p2⟩ ⟨q1, q2⟩ h
  simp_all [roundTripFixed]

theorem exists_roundTripFixed_eq_iff (u : Quad) :
    (∃ p, roundTripFixed p = u) ↔ u.w0 = u.w3 ∧ u.w3 = u.w1 ^^^ u.w2 := by
  constructor
  · rintro ⟨p, rfl⟩
    exact ⟨rfl, rfl⟩
  · rintro ⟨h03, h3⟩
    exact ⟨(u.w1, u.w2), quad_eq_iff.mpr ⟨(h03.trans h3).symm, rfl, rfl, h3.symm⟩⟩

theorem ncard_roundInv_roundFwd_eq_self (d k : Quad) :
    {s : Quad | roundInv d (roundFwd d s k) k = s}.ncard = 2 ^ 128 := by
  have hinj := (invPreMix_bijective k).injective.comp roundTripFixed_injective
  refine (ncard_eq_card_of_injective hinj fun s => ?_).trans ?_
  · calc roundInv d (roundFwd d s k) k = s
      _ ↔ ∃ p, roundTripFixed p = preMix s k := by
        rw [roundInv_roundFwd_eq_self_iff, exists_roundTripFixed_eq_iff]
      _ ↔ ∃ p, invPreMix (roundTripFixed p) k = s := exists_congr fun _ => invPreMix_eq_iff.symm
  · simp only [Nat.card_prod, card_word, ← pow_add]

/-- Settles O34: between the two rounds the constants cancel, and so do the pre-mix and its inverse, which leaves
one diffusion after the other in closed form. -/
theorem whatTheTwoRoundsDoToEachOther : Obligations.WhatTheTwoRoundsDoToEachOther := by
  intro d k
  refine ⟨roundInv_bijective d k, fun s => ?_, ncard_roundInv_roundFwd_eq_self d k, fun c => ?_⟩
  · refine ⟨invDiffuse_diffuse _, ?_, roundInv_roundFwd_eq_self_iff d s k⟩
    rw [roundInv_roundFwd, invDiffuse_diffuse]
  · refine ⟨diffuse_invDiffuse _, ?_, roundFwd_roundInv_eq_self_iff d c k⟩
    rw [roundFwd_roundInv, diffuse_invDiffuse, quadXor]

/-! ## The commands RNDE and RNDD (40_round_transform.md R110, R111) -/

theorem roundFwd_one_zero (d : Quad) :
    roundFwd d ⟨1, 0, 0, 0⟩ ⟨0, 0, 0, 0⟩ = ⟨0x81 ^^^ d.w0, d.w1, d.w2, 1 ^^^ d.w3⟩ := by
  have hdiffuse : diffuse (preMix ⟨1, 0, 0, 0⟩ ⟨0, 0, 0, 0⟩) = ⟨0x81, 0, 0, 1⟩ := by decide
  rw [roundFwd_of_diffuse_preMix hdiffuse]
  simp [quadXor]

theorem exec_rnde_of_roundFwd {s : State} {y : Quad} (h : roundFwd Config.D s.din s.rkin = y) :
    exec .rnde s = .next { s with dout := y } :=
  h ▸ rfl

theorem exec_rndd_of_roundInv {s : State} {y : Quad} (h : roundInv Config.D s.din s.rkin = y) :
    exec .rndd s = .next { s with dout := y } :=
  h ▸ rfl

/-- Settles O35: DOUT is an output of the forward round, whose image is known; the corner cases are the round of
two concrete states with the constants XORed in. -/
theorem rndeIsOneForwardRound : Obligations.RndeIsOneForwardRound := by
  refine ⟨decode_encode .rnde, fun s => exec_rnde_of_roundFwd rfl, ?_, fun s hdin hrkin => ?_,
    fun s hdin hrkin => ?_⟩
  · rintro s t h
    rw [exec_rnde] at h
    cases h
    exact (exists_roundFwd_eq_iff _ _ _).mp ⟨_, rfl⟩
  · exact exec_rnde_of_roundFwd (by rw [hdin, hrkin, roundFwd_zero_zero])
  · exact exec_rnde_of_roundFwd (by rw [hdin, hrkin, roundFwd_one_zero])

theorem roundInv_self_zero (d : Quad) : roundInv d d ⟨0, 0, 0, 0⟩ = ⟨0, 0, 0, 0⟩ := by
  rw [roundInv, quadXor_self]
  decide

theorem roundInv_roundFwd_one_zero (d : Quad) :
    roundInv d (roundFwd d ⟨1, 0, 0, 0⟩ ⟨0, 0, 0, 0⟩) ⟨0, 0, 0, 0⟩ =
      ⟨0xFBF8000000000080, 0x0408000000000000, 0, 0⟩ :=
  (roundInv_roundFwd ..).trans (by decide)

/-- Settles O36: the corner cases are the inverse-direction round of the constants themselves and of the output of
RNDE for `(1, 0, 0, 0)`, where the constants cancel. -/
theorem rnddIsOneInverseDirectionRound : Obligations.RnddIsOneInverseDirectionRound := by
  refine ⟨decode_encode .rndd, fun s => exec_rndd_of_roundInv rfl, fun s hdin hrkin => ?_,
    fun s hdin hrkin => ?_⟩
  · exact exec_rndd_of_roundInv (by rw [hdin, hrkin, roundInv_self_zero])
  · exact exec_rndd_of_roundInv (by rw [hdin, hrkin, ← roundFwd_one_zero, roundInv_roundFwd_one_zero])

end Sys2Proof.Machine

/-! PROOFS. 41_key_schedule.md: the messages of the schedule, what it uses of a digest, and KEYSETUP, settling O37
and O38. -/

namespace Sys2Proof.Machine

/-- A number below 256 is its byte and seven bytes 0, the form in which R132 appends the round index. -/
theorem le64_ofNat_of_lt {n : Nat} (h : n < 256) :
    le64 (BitVec.ofNat 64 n) = [BitVec.ofNat 8 n, 0, 0, 0, 0, 0, 0, 0] := by
  have hword : wordLe [BitVec.ofNat 8 n, 0, 0, 0, 0, 0, 0, 0] = BitVec.ofNat 64 n := by
    apply BitVec.eq_of_toNat_eq
    simp [wordLe]
    omega
  rw [← hword, le64_wordLe _ rfl]

theorem wordAt_take (bytes : List Byte) {n w : Nat} (h : 8 * w + 8 ≤ n) :
    wordAt (bytes.take n) w = wordAt bytes w := by
  have hmin : min 8 (n - 8 * w) = 8 := by omega
  rw [wordAt, List.drop_take, List.take_take, hmin, wordAt]

theorem words4_take_32 (bytes : List Byte) : words4 (bytes.take 32) = words4 bytes := by
  simp (disch := decide) only [words4, wordAt_take]

theorem roundKeyOf_eq_of_take_eq {dg dg' : Config.Digest} (h : dg.toList.take 32 = dg'.toList.take 32) :
    roundKeyOf dg = roundKeyOf dg' := by
  rw [roundKeyOf, ← words4_take_32, h, words4_take_32, roundKeyOf]

theorem keySchedule_getElem (hash : List Byte → Config.Digest) (k : List Byte) (r : Fin 24) :
    (keySchedule hash k)[r] = roundKeyOf (hash (hashMessage k r)) := by
  simp [keySchedule]

/-- Settles O38: an entry is the first four words of a digest, and those are words of its first 32 bytes. -/
theorem scheduleIgnoresDigestBytes32To63 : Obligations.ScheduleIgnoresDigestBytes32To63 := by
  intro hash hash' k hagree
  have hentry (r : Fin 24) : roundKeyOf (hash (hashMessage k r)) = roundKeyOf (hash' (hashMessage k r)) :=
    roundKeyOf_eq_of_take_eq (hagree r r.isLt)
  exact congrArg Vector.ofFn (funext hentry)

theorem keyBytesOf_zero : keyBytesOf (Vector.replicate 8 0) = List.replicate 64 0 := by decide

/-- The state after KEYSETUP field by field (R133). -/
theorem exec_keysetup_fields (s : State) :
    exec .keysetup s =
      .next { s with
        rk := keySchedule Config.hash (keyBytesOf s.key), keyed := true, key := Vector.replicate 8 0 } := by
  simp only [exec_keysetup, State.setKey, State.setKeyed, State.setRk]

/-- Settles O37: entry `r` by the closed form of message `r`; the second KEYSETUP reads the `KEY` which the first
has zeroed. -/
theorem keysetupDerivesTheSchedule : Obligations.KeysetupDerivesTheSchedule := by
  refine ⟨decode_encode .keysetup, fun s => ⟨_, exec_keysetup_fields s, rfl, fun r => ?_, ?_⟩⟩
  · have hbyte : (r : Nat) < 256 := by omega
    rw [keySchedule_getElem, hashMessage, le64_ofNat_of_lt hbyte, keyBytesOf, roundKeyOf]
  · rw [exec_keysetup_fields, keyBytesOf_zero]

end Sys2Proof.Machine

/-! PROOFS. 42_block_engine.md: the round loops and the IV mask, the commands ENC, DEC, IVSET and IVCLR, and that no
command reads KEYED, settling O39 to O45. -/

namespace Sys2Proof.Machine

/-! ## The round loops as folds over round keys (42_block_engine.md R151) -/

/-- The round keys of `n` forward rounds in the order of use, the schedule wrapping. -/
def wrappedKeys (rk : Vector Quad 24) (n : Nat) : List Quad := (List.range n).map (wrappedKey rk)

theorem wrappedKeys_rounds (rk : Vector Quad 24) : wrappedKeys rk Config.rounds = rk.toList := by
  refine List.ext_getElem (by simp [wrappedKeys, Config.rounds]) fun j _ hj => ?_
  have hmod : j % 24 = j := Nat.mod_eq_of_lt (by simpa using hj)
  simp [wrappedKeys, wrappedKey, hmod]

theorem forwardRounds_eq_foldl (d : Quad) (rk : Vector Quad 24) (n : Nat) (s : Quad) :
    forwardRounds d rk n s = (wrappedKeys rk n).foldl (roundFwd d) s := by
  rw [wrappedKeys, List.foldl_map, forwardRounds]

theorem reverse_wrappedKeys (rk : Vector Quad 24) (n : Nat) :
    (wrappedKeys rk n).reverse = (List.range n).map fun j => wrappedKey rk (n - 1 - j) :=
  List.ext_getElem (by simp [wrappedKeys]) fun j _ _ => by simp [wrappedKeys, List.getElem_reverse]

theorem inverseRounds_eq_foldl (d : Quad) (rk : Vector Quad 24) (n : Nat) (s : Quad) :
    inverseRounds d rk n s = (wrappedKeys rk n).reverse.foldl (roundInv d) s := by
  rw [reverse_wrappedKeys, List.foldl_map, inverseRounds]

/-! ## The IV at the block boundary (42_block_engine.md R154) -/

@[simp] theorem maskIv_false (iv s : Quad) : maskIv false iv s = s := rfl

@[simp] theorem maskIv_true (iv s : Quad) : maskIv true iv s = quadXor s iv := rfl

theorem maskIv_bijective (ivv : Bool) (iv : Quad) : Function.Bijective (maskIv ivv iv) := by
  cases ivv with
  | false => exact Function.bijective_id
  | true => exact quadXor_bijective iv

/-- Settles O39: the loop over the iterations is a fold over the schedule, in order or reversed, and the mask is
outside it. -/
theorem blockFunctionsFollowTheListing : Obligations.BlockFunctionsFollowTheListing := by
  intro d rk iv s
  have hforward (x : Quad) : forwardRounds d rk Config.rounds x = rk.toList.foldl (roundFwd d) x := by
    rw [forwardRounds_eq_foldl, wrappedKeys_rounds]
  have hinverse (x : Quad) :
      inverseRounds d rk Config.rounds x = rk.toList.reverse.foldl (roundInv d) x := by
    rw [inverseRounds_eq_foldl, wrappedKeys_rounds]
  simp only [encryptState, decryptState, hforward, hinverse, maskIv_false, maskIv_true, quadXor, and_self]

/-- Settles O43: the mask is one exclusive OR outside the rounds, and that with zero changes nothing. -/
theorem ivMasksOnlyTheBoundary : Obligations.IvMasksOnlyTheBoundary := by
  intro d rk iv x
  refine ⟨rfl, rfl, ?_, ?_⟩
  · exact congrArg (forwardRounds d rk Config.rounds) (quadXor_zero x)
  · exact quadXor_zero (inverseRounds d rk Config.rounds x)

/-! ## Encryption: its image and its collisions (42_block_engine.md R152, R157) -/

theorem encryptState_w1_xor_w2 (d : Quad) (rk : Vector Quad 24) (ivv : Bool) (iv s : Quad) :
    (encryptState d rk ivv iv s).w1 ^^^ (encryptState d rk ivv iv s).w2 = d.w1 ^^^ d.w2 :=
  (exists_roundFwd_eq_iff d (wrappedKey rk 23) _).mp
    ⟨_, (forwardRounds_succ d rk 23 (maskIv ivv iv s)).symm⟩

/-- A collision of the first round is one of all the rounds. -/
theorem forwardRounds_eq_of_roundFwd_eq {d s' s : Quad} {rk : Vector Quad 24} {n : Nat} (hn : 1 ≤ n)
    (h : roundFwd d s' (wrappedKey rk 0) = roundFwd d s (wrappedKey rk 0)) :
    forwardRounds d rk n s' = forwardRounds d rk n s := by
  induction n, hn using Nat.le_induction with
  | base => exact h
  | succ n _ ih => rw [forwardRounds_succ, ih, forwardRounds_succ]

theorem forwardRounds_maskIv_not_injective (d : Quad) (rk : Vector Quad 24) (ivv : Bool) (iv : Quad)
    {n : Nat} (hn : 1 ≤ n) : ¬ Function.Injective fun s => forwardRounds d rk n (maskIv ivv iv s) := by
  intro hmasked
  have hrounds : Function.Injective (forwardRounds d rk n) :=
    Function.Injective.of_comp_right hmasked (maskIv_bijective ivv iv).surjective
  exact roundFwd_not_injective d (wrappedKey rk 0) fun _ _ h =>
    hrounds (forwardRounds_eq_of_roundFwd_eq hn h)

theorem encryptState_not_injective (d : Quad) (rk : Vector Quad 24) (ivv : Bool) (iv : Quad) :
    ¬ Function.Injective fun s => encryptState d rk ivv iv s :=
  forwardRounds_maskIv_not_injective d rk ivv iv (by decide)

theorem extraEncryptState_not_injective (d : Quad) (rk : Vector Quad 24) (ivv : Bool) (iv : Quad) :
    ¬ Function.Injective fun s => extraEncryptState d rk ivv iv s :=
  forwardRounds_maskIv_not_injective d rk ivv iv (by decide)

theorem finite_quad : Finite Quad :=
  Finite.of_injective (fun q : Quad => (q.w0, q.w1, q.w2, q.w3)) fun p q h => by
    simpa [quad_eq_iff] using h

theorem ncard_preimage_maskIv (ivv : Bool) (iv : Quad) (blocks : Set Quad) :
    (maskIv ivv iv ⁻¹' blocks).ncard = blocks.ncard := by
  have hmask := maskIv_bijective ivv iv
  have hsub : blocks ⊆ Set.range (maskIv ivv iv) := fun x _ => hmask.surjective x
  exact Set.ncard_preimage_of_injective_subset_range hmask.injective hsub

/-- The masked blocks that the first round maps to one state number `2^64`, and the rounds after it keep them
together. -/
theorem two_pow_64_le_ncard_encryptState_eq (d : Quad) (rk : Vector Quad 24) (ivv : Bool) (iv s : Quad) :
    2 ^ 64 ≤ {s' : Quad | encryptState d rk ivv iv s' = encryptState d rk ivv iv s}.ncard := by
  have := finite_quad
  calc 2 ^ 64
    _ = {x | roundFwd d x (wrappedKey rk 0) = roundFwd d (maskIv ivv iv s) (wrappedKey rk 0)}.ncard :=
      (forwardRoundOutputsHave2To64Preimages.2 d (maskIv ivv iv s) _).symm
    _ = (maskIv ivv iv ⁻¹' _).ncard := (ncard_preimage_maskIv ivv iv _).symm
    _ ≤ _ := Set.ncard_le_ncard fun _ h => forwardRounds_eq_of_roundFwd_eq (by decide) h

/-- Settles O44: the first round's collisions stay collisions; a function that recovered the input would make
encryption injective. -/
theorem blockEncryptionIsNotInvertible : Obligations.BlockEncryptionIsNotInvertible := by
  intro d rk ivv iv
  refine ⟨two_pow_64_le_ncard_encryptState_eq d rk ivv iv, ?_, ?_⟩
  · rintro ⟨g, hg⟩
    exact encryptState_not_injective d rk ivv iv (Function.LeftInverse.injective hg)
  · rintro ⟨g, hg⟩
    exact extraEncryptState_not_injective d rk ivv iv (Function.LeftInverse.injective hg)

/-- Settles O40: DOUT is an output of the last forward round, whose image is known. -/
theorem encEncryptsTheBlock : Obligations.EncEncryptsTheBlock :=
  ⟨decode_encode .enc, fun _ => ⟨_, exec_enc _, rfl, encryptState_w1_xor_w2 ..⟩,
    encryptState_not_injective⟩

/-! ## Decryption (42_block_engine.md R153) -/

theorem foldl_roundInv_bijective (d : Quad) (keys : List Quad) :
    Function.Bijective fun s => keys.foldl (roundInv d) s := by
  induction keys with
  | nil => exact Function.bijective_id
  | cons k keys ih => exact ih.comp (roundInv_bijective d k)

theorem inverseRounds_bijective (d : Quad) (rk : Vector Quad 24) (n : Nat) :
    Function.Bijective (inverseRounds d rk n) := by
  rw [funext (inverseRounds_eq_foldl d rk n)]
  exact foldl_roundInv_bijective d _

theorem decryptState_bijective (d : Quad) (rk : Vector Quad 24) (ivv : Bool) (iv : Quad) :
    Function.Bijective fun s => decryptState d rk ivv iv s :=
  (maskIv_bijective ivv iv).comp (inverseRounds_bijective d rk Config.rounds)

/-- Settles O41: each round and the mask are bijections; were ENC always undone, it would be injective. -/
theorem decIsABijectionOfTheBlock : Obligations.DecIsABijectionOfTheBlock := by
  refine ⟨decode_encode .dec, exec_dec, fun d rk ivv iv => ⟨decryptState_bijective d rk ivv iv, ?_⟩⟩
  by_contra! hundone
  exact encryptState_not_injective d rk ivv iv (Function.LeftInverse.injective hundone)

/-! ## The IV commands and KEYED (42_block_engine.md R155, R156, R158) -/

/-- Settles O42: both words are the encoder's, both states the commands' own equations. -/
theorem ivsetAndIvclrSetAndClearTheIv : Obligations.IvsetAndIvclrSetAndClearTheIv :=
  ⟨decode_encode .ivset, decode_encode .ivclr, exec_ivset, exec_ivclr⟩

/-- No command's equation has KEYED among its operands, and KEYSETUP sets it. -/
theorem exec_setKeyed {i : Instr} {s t : State} (b : Bool) (h : exec i s = .next t) :
    exec i (s.setKeyed b) = .next (t.setKeyed (if i = .keysetup then true else b)) := by
  cases i <;> obtain rfl := Host.Outcome.next.inj h <;> rfl

/-- Settles O45: a command completes, and changing KEYED before it changes only KEYED after it. -/
theorem noCommandReadsKeyed : Obligations.NoCommandReadsKeyed := fun i s b => by
  obtain ⟨t, h⟩ := exec_completes i s
  exact ⟨t, h, exec_setKeyed b h⟩

end Sys2Proof.Machine

/-! PROOFS. 43_adaptive_mode.md: the counts of a block, the score and its closed forms, the selector, and the commands
ENCA and DECX, settling O46 to O50 and O52 to O54. -/

namespace Sys2Proof.Machine

/-! ## The extra rounds (43_adaptive_mode.md R179 to R181) -/

theorem wrappedKeys_xrounds (rk : Vector Quad 24) :
    wrappedKeys rk Config.xrounds = rk.toList ++ rk.toList := by
  have hwrap (j : ℕ) : wrappedKey rk (Config.rounds + j) = wrappedKey rk j := by
    simp [wrappedKey, Config.rounds]
  rw [← wrappedKeys_rounds]
  simp [wrappedKeys, Config.xrounds, Nat.two_mul, List.range_add, hwrap]

theorem extraEncryptState_eq_foldl (d : Quad) (rk : Vector Quad 24) (ivv : Bool) (iv s : Quad) :
    extraEncryptState d rk ivv iv s =
      (rk.toList ++ rk.toList).foldl (roundFwd d) (maskIv ivv iv s) := by
  rw [extraEncryptState, forwardRounds_eq_foldl, wrappedKeys_xrounds]

theorem extraDecryptState_eq_foldl (d : Quad) (rk : Vector Quad 24) (ivv : Bool) (iv s : Quad) :
    extraDecryptState d rk ivv iv s =
      maskIv ivv iv ((rk.toList.reverse ++ rk.toList.reverse).foldl (roundInv d) s) := by
  rw [extraDecryptState, inverseRounds_eq_foldl, wrappedKeys_xrounds, List.reverse_append]

theorem extraEncryptState_false (d : Quad) (rk : Vector Quad 24) (iv s : Quad) :
    extraEncryptState d rk false iv s = encryptState d rk false iv (encryptState d rk false iv s) := by
  simp [extraEncryptState_eq_foldl, encryptState, forwardRounds_eq_foldl, wrappedKeys_rounds]

theorem extraDecryptState_false (d : Quad) (rk : Vector Quad 24) (iv s : Quad) :
    extraDecryptState d rk false iv s = decryptState d rk false iv (decryptState d rk false iv s) := by
  simp [extraDecryptState_eq_foldl, decryptState, inverseRounds_eq_foldl, wrappedKeys_rounds]

/-- Settles O54: the wrapping schedule of 48 rounds is the schedule twice over. -/
theorem extraRoundsFollowTheListing : Obligations.ExtraRoundsFollowTheListing := fun d rk iv s =>
  ⟨fun ivv => extraEncryptState_eq_foldl d rk ivv iv s, fun ivv => extraDecryptState_eq_foldl d rk ivv iv s,
    extraEncryptState_false d rk iv s⟩

theorem extraDecryptState_bijective (d : Quad) (rk : Vector Quad 24) (ivv : Bool) (iv : Quad) :
    Function.Bijective fun s => extraDecryptState d rk ivv iv s :=
  (maskIv_bijective ivv iv).comp (inverseRounds_bijective d rk Config.xrounds)

/-- Settles O53: each round and the mask are bijections; were the extra-rounds encryption always undone, it would be
injective; without an IV the 48 rounds are twice the 24 of DEC. -/
theorem decxIsTheExtraRoundsDecryptDirection : Obligations.DecxIsTheExtraRoundsDecryptDirection := by
  refine ⟨decode_encode .decx, exec_decx, fun d rk ivv iv => ⟨extraDecryptState_bijective d rk ivv iv, ?_⟩,
    fun s hivv => ⟨_, _, exec_dec s, exec_dec _, ?_⟩⟩
  · by_contra! hundone
    exact extraEncryptState_not_injective d rk ivv iv (Function.LeftInverse.injective hundone)
  · rw [exec_decx, hivv, extraDecryptState_false]
    simp only [State.setDout, hivv]

/-! ## The counts of a block (43_adaptive_mode.md R171) -/

theorem byteValues_nodup : byteValues.Nodup := by
  refine List.nodup_range.map_on fun x hx y hy hxy => ?_
  rw [List.mem_range] at hx hy
  simpa [Nat.mod_eq_of_lt, hx, hy] using congrArg BitVec.toNat hxy

theorem byteValues_getElem? (v : Byte) : byteValues[v.toNat]? = some v := by
  rw [byteValues, List.getElem?_map, List.getElem?_range v.isLt, Option.map_some, BitVec.ofNat_toNat,
    BitVec.setWidth_eq]

theorem mem_byteValues (v : Byte) : v ∈ byteValues := List.mem_of_getElem? (byteValues_getElem? v)

theorem histogram_sum (block : List Byte) : (histogram block).sum = block.length := by
  have hmem : ∀ v ∈ (block : Multiset Byte), v ∈ byteValues.toFinset := fun v _ =>
    List.mem_toFinset.mpr (mem_byteValues v)
  rw [histogram, ← List.sum_toFinset _ byteValues_nodup]
  simpa only [Multiset.coe_count, Multiset.coe_card] using Multiset.sum_count_eq_card hmem

/-- The bytes with a non-zero count are those that occur, each once. -/
theorem positiveCounts_perm (block : List Byte) :
    (positiveCounts block).Perm (block.toFinset.toList.map block.count) := by
  have hbytes : (byteValues.filter fun v => 0 < block.count v).Perm block.toFinset.toList :=
    (List.perm_ext_iff_of_nodup (byteValues_nodup.filter _) block.toFinset.nodup_toList).mpr fun v => by
      simp [mem_byteValues]
  rw [positiveCounts, histogram, List.filter_map]
  exact hbytes.map block.count

theorem length_positiveCounts (block : List Byte) :
    (positiveCounts block).length = block.toFinset.card := by
  simpa using (positiveCounts_perm block).length_eq

/-- Settles O46: the counts are read off byte by byte; the non-zero ones are as many as the block has different
bytes. -/
theorem histogramCountsSumTo32 : Obligations.HistogramCountsSumTo32 := by
  intro block h
  have hne : block ≠ [] := List.ne_nil_of_length_pos (h ▸ by decide)
  refine ⟨by simp [histogram, byteValues], fun v => ?_, (histogram_sum block).trans h, ?_, ?_⟩
  · rw [histogram, List.getElem?_map, byteValues_getElem?, Option.map_some]
  · rw [length_positiveCounts]
    exact Finset.card_pos.mpr ((List.toFinset_nonempty_iff _).mpr hne)
  · rw [length_positiveCounts, ← h]
    exact block.toFinset_card_le

/-! ## The score over the bytes that occur (43_adaptive_mode.md R172, R173) -/

theorem sum_map_positiveCounts (block : List Byte) (f : ℕ → ℝ) :
    ((positiveCounts block).map f).sum = ∑ v ∈ block.toFinset, f (block.count v) := by
  rw [((positiveCounts_perm block).map f).sum_eq, List.map_map, Finset.sum_map_toList]
  rfl

theorem countProduct_eq_prod (block : List Byte) :
    countProduct block = ∏ v ∈ block.toFinset, block.count v ^ block.count v := by
  rw [countProduct, ← List.prod_eq_foldl, ((positiveCounts_perm block).map _).prod_eq, List.map_map,
    Finset.prod_map_toList]
  rfl

theorem countLogSum_eq_sum (block : List Byte) :
    countLogSum block = ∑ v ∈ block.toFinset, (block.count v : ℝ) * Real.logb 2 (block.count v) :=
  sum_map_positiveCounts block _

theorem count_pos_of_mem_toFinset {block : List Byte} {v : Byte} (hv : v ∈ block.toFinset) :
    0 < block.count v :=
  List.count_pos_iff.mpr (List.mem_toFinset.mp hv)

theorem one_le_countProduct (block : List Byte) : 1 ≤ countProduct block := by
  rw [countProduct_eq_prod]
  exact Finset.one_le_prod' fun v hv => Nat.one_le_pow _ _ (count_pos_of_mem_toFinset hv)

theorem logb_countProduct (block : List Byte) : Real.logb 2 (countProduct block) = countLogSum block := by
  rw [countProduct_eq_prod, countLogSum_eq_sum, Nat.cast_prod, Real.logb_prod]
  · simp [Real.logb_pow]
  · intro v hv
    have := count_pos_of_mem_toFinset hv
    positivity

theorem logb_two_32 : Real.logb 2 32 = 5 := by
  rw [Real.logb_eq_iff_rpow_eq] <;> norm_num

theorem natCast_mul_logb_nonneg (c : ℕ) : 0 ≤ (c : ℝ) * Real.logb 2 c :=
  mul_nonneg c.cast_nonneg (div_nonneg (Real.log_natCast_nonneg c) (Real.log_nonneg one_le_two))

theorem natCast_mul_five_sub_logb_nonneg {c : ℕ} (h0 : 0 < c) (h32 : c ≤ 32) :
    0 ≤ (c : ℝ) * (5 - Real.logb 2 c) := by
  have hle : (c : ℝ) ≤ 32 := by exact_mod_cast h32
  have hlog : Real.logb 2 c ≤ 5 :=
    logb_two_32 ▸ Real.logb_le_logb_of_le one_lt_two (Nat.cast_pos.mpr h0) hle
  exact mul_nonneg c.cast_nonneg (sub_nonneg.mpr hlog)

theorem countLogSum_nonneg (block : List Byte) : 0 ≤ countLogSum block := by
  rw [countLogSum_eq_sum]
  exact Finset.sum_nonneg fun v _ => natCast_mul_logb_nonneg (block.count v)

section
variable {block : List Byte} (h : block.length = 32)
include h

theorem sum_count_eq_32 : ∑ v ∈ block.toFinset, block.count v = 32 :=
  (List.sum_toFinset_count_eq_length block).trans h

theorem countProduct_le : countProduct block ≤ 2 ^ 160 := by
  have hcount (v : Byte) : block.count v ≤ 32 := h ▸ List.count_le_length
  calc countProduct block = ∏ v ∈ block.toFinset, block.count v ^ block.count v := countProduct_eq_prod block
    _ ≤ ∏ v ∈ block.toFinset, 32 ^ block.count v :=
      Finset.prod_le_prod' fun v _ => Nat.pow_le_pow_left (hcount v) _
    _ = 32 ^ 32 := by rw [Finset.prod_pow_eq_pow_sum, sum_count_eq_32 h]
    _ = 2 ^ 160 := by norm_num

/-- What `S` lacks of its greatest value, byte by byte. -/
theorem sum_count_mul_five_sub_logb :
    ∑ v ∈ block.toFinset, (block.count v : ℝ) * (5 - Real.logb 2 (block.count v)) = 160 - countLogSum block := by
  have hsum : ∑ v ∈ block.toFinset, (block.count v : ℝ) = 32 := by exact_mod_cast sum_count_eq_32 h
  simp only [mul_sub, Finset.sum_sub_distrib, ← Finset.sum_mul, hsum, countLogSum_eq_sum]
  norm_num

theorem entropy_eq : entropy block = 5 - countLogSum block / 32 := by
  have hterm : ∀ v ∈ block.toFinset, (block.count v : ℝ) / 32 * Real.logb 2 (block.count v / 32) =
      -((block.count v : ℝ) * (5 - Real.logb 2 (block.count v)) / 32) := by
    intro v hv
    have hpos : (block.count v : ℝ) ≠ 0 := by exact_mod_cast (count_pos_of_mem_toFinset hv).ne'
    rw [Real.logb_div hpos (by norm_num), logb_two_32]
    ring
  rw [entropy, sum_map_positiveCounts, Finset.sum_congr rfl hterm, Finset.sum_neg_distrib, ← Finset.sum_div,
    sum_count_mul_five_sub_logb h]
  ring

theorem normalizedEntropy_eq : normalizedEntropy block = (160 - countLogSum block) / 256 := by
  rw [normalizedEntropy, entropy_eq h]
  ring

theorem count_mul_five_sub_logb_nonneg :
    ∀ v ∈ block.toFinset, 0 ≤ (block.count v : ℝ) * (5 - Real.logb 2 (block.count v)) := fun _ hv =>
  natCast_mul_five_sub_logb_nonneg (count_pos_of_mem_toFinset hv) (h ▸ List.count_le_length)

theorem countLogSum_le : countLogSum block ≤ 160 := by
  rw [← sub_nonneg, ← sum_count_mul_five_sub_logb h]
  exact Finset.sum_nonneg (count_mul_five_sub_logb_nonneg h)

end

/-- Settles O47: every sum and product is one over the bytes that occur, where `log2 32 = 5` and the counts sum to
32. -/
theorem entropyClosedForms : Obligations.EntropyClosedForms := fun block h =>
  ⟨entropy_eq h, normalizedEntropy_eq h, logb_countProduct block, one_le_countProduct block, countProduct_le h,
    countLogSum_nonneg block, countLogSum_le h⟩

/-! ## The ends of the score (43_adaptive_mode.md R174, R175) -/

theorem logb_two_natCast_inj {c k : ℕ} (hc : 0 < c) (hk : 0 < k) :
    Real.logb 2 c = Real.logb 2 k ↔ c = k := by
  have hc' : (c : ℝ) ∈ Set.Ioi 0 := Set.mem_Ioi.mpr (Nat.cast_pos.mpr hc)
  have hk' : (k : ℝ) ∈ Set.Ioi 0 := Set.mem_Ioi.mpr (Nat.cast_pos.mpr hk)
  rw [(Real.logb_injOn_pos one_lt_two).eq_iff hc' hk', Nat.cast_inj]

theorem natCast_mul_logb_eq_zero_iff {c : ℕ} (hc : 0 < c) : (c : ℝ) * Real.logb 2 c = 0 ↔ c = 1 := by
  have hlog := logb_two_natCast_inj hc one_pos
  rw [Nat.cast_one, Real.logb_one] at hlog
  rw [mul_eq_zero_iff_left (Nat.cast_ne_zero.mpr hc.ne'), hlog]

theorem natCast_mul_five_sub_logb_eq_zero_iff {c : ℕ} (hc : 0 < c) :
    (c : ℝ) * (5 - Real.logb 2 c) = 0 ↔ c = 32 := by
  have hlog := logb_two_natCast_inj hc (k := 32) (by decide)
  rw [Nat.cast_ofNat, logb_two_32] at hlog
  rw [mul_eq_zero_iff_left (Nat.cast_ne_zero.mpr hc.ne'), sub_eq_zero, eq_comm, hlog]

theorem countLogSum_eq_zero_iff (block : List Byte) : countLogSum block = 0 ↔ block.Nodup := by
  rw [countLogSum_eq_sum, Finset.sum_eq_zero_iff_of_nonneg fun v _ => natCast_mul_logb_nonneg (block.count v),
    List.nodup_iff_count_eq_one]
  simp only [List.mem_toFinset]
  exact forall₂_congr fun v hv => natCast_mul_logb_eq_zero_iff (List.count_pos_iff.mpr hv)

theorem countLogSum_eq_160_iff {block : List Byte} (h : block.length = 32) :
    countLogSum block = 160 ↔ ∀ v ∈ block, block.count v = 32 := by
  rw [eq_comm, ← sub_eq_zero, ← sum_count_mul_five_sub_logb h,
    Finset.sum_eq_zero_iff_of_nonneg (count_mul_five_sub_logb_nonneg h)]
  simp only [List.mem_toFinset]
  exact forall₂_congr fun v hv => natCast_mul_five_sub_logb_eq_zero_iff (List.count_pos_iff.mpr hv)

theorem exists_eq_replicate_iff {block : List Byte} (h : block.length = 32) :
    (∃ v, block = List.replicate 32 v) ↔ ∀ v ∈ block, block.count v = 32 := by
  constructor
  · rintro ⟨v, rfl⟩ w hw
    rw [List.eq_of_mem_replicate hw, List.count_replicate_self]
  · intro hcount
    obtain ⟨v, hv⟩ : ∃ v, v ∈ block := List.exists_mem_of_length_pos (h ▸ by decide)
    have hall : ∀ w ∈ block, v = w := List.count_eq_length.mp ((hcount v hv).trans h.symm)
    exact ⟨v, List.eq_replicate_iff.mpr ⟨h, fun w hw => (hall w hw).symm⟩⟩

/-- Settles O48: the score is `(160 - S)/256`, and `S` is a sum of terms that are 0 at the count 1 and
greatest at 32. -/
theorem entropyRangeAndItsEnds : Obligations.EntropyRangeAndItsEnds := by
  intro block h
  have hnonneg := countLogSum_nonneg block
  have hle := countLogSum_le h
  have hlow : (160 - countLogSum block) / 256 = 0 ↔ countLogSum block = 160 := by
    constructor <;> intro <;> linarith
  have hhigh : (160 - countLogSum block) / 256 = 5 / 8 ↔ countLogSum block = 0 := by
    constructor <;> intro <;> linarith
  rw [normalizedEntropy_eq h, hlow, hhigh, countLogSum_eq_160_iff h, exists_eq_replicate_iff h,
    countLogSum_eq_zero_iff]
  exact ⟨by linarith, by linarith, Iff.rfl, Iff.rfl⟩

/-! ## The selector (43_adaptive_mode.md R176, R178) -/

theorem extraSelected_of_neg (block : List Byte) {thresh : Word} (hn : thresh.toInt < 0) :
    extraSelected block thresh = true := by
  simp only [extraSelected, sint64_eq_toInt, hn, if_true]

theorem extraSelected_of_ge (block : List Byte) {thresh : Word} (hn : 40960 ≤ thresh.toInt) :
    extraSelected block thresh = false := by
  have hneg : ¬ thresh.toInt < 0 := by omega
  simp only [extraSelected, sint64_eq_toInt, hneg, hn.not_gt, if_false]

theorem extraSelected_of_lt (block : List Byte) {thresh : Word} (h0 : 0 ≤ thresh.toInt)
    (hn : thresh.toInt < 40960) :
    extraSelected block thresh = true ↔ countProduct block ^ 256 < 2 ^ (40960 - thresh.toInt).toNat := by
  simp only [extraSelected, sint64_eq_toInt, h0.not_gt, hn, if_false, if_true, decide_eq_true_eq]

theorem countProduct_pow_lt_iff (block : List Byte) (k : ℕ) :
    countProduct block ^ 256 < 2 ^ k ↔ 256 * countLogSum block < k := by
  have hpos : (0 : ℝ) < (countProduct block : ℝ) ^ 256 :=
    pow_pos (Nat.cast_pos.mpr (one_le_countProduct block)) 256
  have hlog : Real.logb 2 ((countProduct block : ℝ) ^ 256) = 256 * countLogSum block := by
    rw [Real.logb_pow, logb_countProduct, Nat.cast_ofNat]
  rw [← hlog, Real.logb_lt_iff_lt_rpow one_lt_two hpos, Real.rpow_natCast]
  exact_mod_cast Iff.rfl

theorem integerForm_iff (block : List Byte) (n : ℤ) :
    n < 40960 ∧ countProduct block ^ 256 < 2 ^ (40960 - n).toNat ↔
      256 * countLogSum block < 40960 - n := by
  have hnonneg := countLogSum_nonneg block
  rcases lt_or_ge n 40960 with hn | hge
  · have hcast : (((40960 - n).toNat : ℕ) : ℝ) = 40960 - n := by
      exact_mod_cast Int.toNat_of_nonneg (sub_nonneg.mpr hn.le)
    rw [and_iff_right hn, countProduct_pow_lt_iff, hcast]
  · have hge' : (40960 : ℝ) ≤ n := by exact_mod_cast hge
    exact iff_of_false (fun hlt => hge.not_gt hlt.1) (by linarith)

/-- The integer form of R176; a negative threshold meets it because `S` is at most 160. -/
theorem extraSelected_iff {block : List Byte} (h : block.length = 32) (thresh : Word) :
    extraSelected block thresh = true ↔
      thresh.toInt < 40960 ∧ countProduct block ^ 256 < 2 ^ (40960 - thresh.toInt).toNat := by
  rcases lt_or_ge thresh.toInt 0 with hneg | h0
  · have hle := countLogSum_le h
    have hneg' : (thresh.toInt : ℝ) < 0 := by exact_mod_cast hneg
    exact iff_of_true (extraSelected_of_neg block hneg) ((integerForm_iff block _).mpr (by linarith))
  rcases lt_or_ge thresh.toInt 40960 with hn | hge
  · rw [extraSelected_of_lt block h0 hn, and_iff_right hn]
  · simp only [extraSelected_of_ge block hge, hge.not_gt, false_and, Bool.false_eq_true]

theorem extraSelected_iff_normalizedEntropy {block : List Byte} (h : block.length = 32) (thresh : Word) :
    extraSelected block thresh = true ↔ normalizedEntropy block > thresholdValue thresh := by
  rw [extraSelected_iff h, integerForm_iff, normalizedEntropy_eq h, thresholdValue, sint64_eq_toInt]
  constructor <;> intro hlt <;> linarith

/-- Settles O49: the machine's branches are the integer form, and its base-2 logarithm is the comparison of the score
in closed form. -/
theorem selectorIsTheExactRealComparison : Obligations.SelectorIsTheExactRealComparison :=
  fun _ thresh h => ⟨extraSelected_iff_normalizedEntropy h thresh, extraSelected_iff h thresh⟩

/-! ## The command ENCA (43_adaptive_mode.md R177) -/

theorem exec_enca_of_extraSelected {s : State} (h : extraSelected (bytes32 s.din) s.thresh = true) :
    exec .enca s =
      .next { s with dout := extraEncryptState Config.D s.rk s.ivv s.iv s.din, xmode := true } := by
  simp only [exec_enca, h, if_true, State.setDout, State.setXmode]

theorem exec_enca_of_not_extraSelected {s : State} (h : extraSelected (bytes32 s.din) s.thresh = false) :
    exec .enca s =
      .next { s with dout := encryptState Config.D s.rk s.ivv s.iv s.din, xmode := false } := by
  simp only [exec_enca, h, Bool.false_eq_true, if_false, State.setDout, State.setXmode]

/-- Settles O52: the machine's selector is the comparison of the score, and each of its answers leaves one branch. -/
theorem encaSelectsItsPathByEntropy : Obligations.EncaSelectsItsPathByEntropy := by
  refine ⟨decode_encode .enca, fun s => ?_⟩
  rw [← extraSelected_iff_normalizedEntropy (bytes32_length s.din) s.thresh, Bool.not_eq_true]
  exact ⟨exec_enca_of_extraSelected, exec_enca_of_not_extraSelected⟩

/-! ## The regions of the threshold (43_adaptive_mode.md R178) -/

theorem toInt_eq_toNat_of_le {v : Word} (h : v.toNat ≤ 0x7FFFFFFFFFFFFFFF) : v.toInt = v.toNat :=
  BitVec.toInt_eq_toNat_of_lt (by omega)

theorem thresholdValue_eq_toNat_div {thresh : Word} (h : thresh.toNat ≤ 0x7FFFFFFFFFFFFFFF) :
    thresholdValue thresh = (thresh.toNat : ℝ) / 65536 := by
  rw [thresholdValue, sint64_eq_toInt, toInt_eq_toNat_of_le h, Int.cast_natCast]

theorem extraSelected_of_toNat_ge (block : List Byte) {thresh : Word} (hlow : 0xA000 ≤ thresh.toNat)
    (hhigh : thresh.toNat ≤ 0x7FFFFFFFFFFFFFFF) : extraSelected block thresh = false :=
  extraSelected_of_ge block (by rw [toInt_eq_toNat_of_le hhigh]; exact_mod_cast hlow)

theorem extraSelected_zero_iff {block : List Byte} (h : block.length = 32) :
    extraSelected block 0 = true ↔ ¬ ∃ v, block = List.replicate 32 v := by
  obtain ⟨hnonneg, -, hzero, -⟩ := entropyRangeAndItsEnds block h
  have hthresh : thresholdValue 0 = 0 := by
    rw [thresholdValue_eq_toNat_div (by decide)]
    simp
  rw [extraSelected_iff_normalizedEntropy h, hthresh, ← hzero, gt_iff_lt, hnonneg.lt_iff_ne', ne_eq]

/-- A block of 32 distinct bytes has the greatest score. -/
theorem exists_extraSelected {thresh : Word} (hthresh : thresholdValue thresh < 5 / 8) :
    ∃ block : List Byte, block.length = 32 ∧ extraSelected block thresh = true := by
  have hlength : (byteValues.take 32).length = 32 := by simp [byteValues]
  have hdistinct : (byteValues.take 32).Nodup := byteValues_nodup.sublist (List.take_sublist 32 _)
  obtain ⟨-, -, -, hmax⟩ := entropyRangeAndItsEnds _ hlength
  refine ⟨_, hlength, (extraSelected_iff_normalizedEntropy hlength thresh).mpr ?_⟩
  rwa [hmax.mpr hdistinct]

/-- A block of 32 equal bytes has the score 0. -/
theorem exists_not_extraSelected {thresh : Word} (hthresh : 0 ≤ thresholdValue thresh) :
    ∃ block : List Byte, block.length = 32 ∧ extraSelected block thresh = false := by
  have hlength : (List.replicate 32 (0 : Byte)).length = 32 := List.length_replicate
  obtain ⟨-, -, hzero, -⟩ := entropyRangeAndItsEnds _ hlength
  refine ⟨_, hlength, ?_⟩
  rw [← Bool.not_eq_true, extraSelected_iff_normalizedEntropy hlength, hzero.mpr ⟨0, rfl⟩]
  exact hthresh.not_gt

/-- Settles O50: outside 0 to 40960 the selector answers for every block; inside, a block of each end of the score
lies on either side of the threshold. -/
theorem thresholdRegions : Obligations.ThresholdRegions := by
  refine ⟨fun thresh hlow hhigh => ⟨fun block _ => extraSelected_of_toNat_ge block hlow hhigh, ?_⟩, by decide,
    fun thresh block hn _ => extraSelected_of_neg block (BitVec.toInt_neg_iff.mpr (by omega)),
    fun block => extraSelected_zero_iff, fun thresh hlow hhigh => ?_⟩
  · rintro s rfl
    exact ⟨_, exec_enc s, exec_enca_of_not_extraSelected (extraSelected_of_toNat_ge _ hlow hhigh)⟩
  · have hpos : (0 : ℝ) < thresh.toNat := Nat.cast_pos.mpr hlow
    have hlt : (thresh.toNat : ℝ) < 40960 := by exact_mod_cast hhigh
    have hvalue := thresholdValue_eq_toNat_div (thresh := thresh) (by omega)
    exact ⟨exists_extraSelected (by rw [hvalue]; linarith), exists_not_extraSelected (by rw [hvalue]; linarith)⟩

end Sys2Proof.Machine

/-! PROOFS. 60_exceptions.md: the error action, the accesses it refuses, what runs on after an error, and the secrecy
of KEY at the port, settling O9, O17, O19, O22, O24 and O59. -/

namespace Sys2Proof.Machine

/-! ## The error action (60_exceptions.md R202, R203) -/

theorem raiseError_of_not_err (c : ErrCause) {s : State} (h : s.err = false) :
    raiseError c s = { s with err := true, errCode := causeCode c } := by
  simp [raiseError_eq, h]

theorem raiseError_of_err (c : ErrCause) {s : State} (h : s.err = true) : raiseError c s = s := by
  rw [raiseError_eq, if_pos h, ← h]

/-- Settles O22: the first error latches `causeCode`, which is the listed code of each cause. -/
theorem errorActionKeepsTheFirstCause : Obligations.ErrorActionKeepsTheFirstCause := by
  refine ⟨fun s c h => ?_, fun s c h => raiseError_of_err c h⟩
  rw [raiseError_of_not_err c h]
  cases c <;> rfl

/-! ## Refused accesses (60_exceptions.md R205 to R207) -/

/-- The access column of the register map, index by index (20_memory.md R53). -/
theorem exists_regAt_access_iff (idx : Index) (a : Access) :
    (∃ r, regAt idx = some r ∧ access r = a) ↔
      match a with
      | .wo => idx.toNat = 0x00 ∨ (0x08 ≤ idx.toNat ∧ idx.toNat ≤ 0x0F)
      | .ro => idx.toNat = 0x01 ∨ (0x14 ≤ idx.toNat ∧ idx.toNat ≤ 0x17) ∨
          (0x1C ≤ idx.toNat ∧ idx.toNat ≤ 0x7F)
      | .rw => idx.toNat = 0x02 ∨ (0x10 ≤ idx.toNat ∧ idx.toNat ≤ 0x13) ∨
          (0x18 ≤ idx.toNat ∧ idx.toNat ≤ 0x1B) := by
  rw [← Option.map_eq_some_iff]
  cases a <;>
    simp only [regAt, apply_ite (Option.map access), Option.map_some, Option.map_none, access,
      ite_eq_iff, Option.some.injEq, reduceCtorEq, and_false, and_true, or_false, false_or] <;>
    omega

section
variable {idx : Index} {r : Reg}

theorem hostRead_of_unmapped (h : regAt idx = none) (s : State) :
    hostRead idx s = (raiseError .unmapped s).setResponse (some 0) := by
  simp [hostRead, h]

theorem hostRead_of_writeOnly (hr : regAt idx = some r) (h : access r = .wo) (s : State) :
    hostRead idx s = (raiseError .readWo s).setResponse (some 0) := by
  simp [hostRead, hr, h]

theorem hostWrite_of_unmapped (h : regAt idx = none) (v : Word) (s : State) :
    hostWrite idx v s = .next (raiseError .unmapped s) := by
  simp [hostWrite, h]

theorem hostWrite_of_readOnly (hr : regAt idx = some r) (h : access r = .ro) (v : Word)
    (s : State) : hostWrite idx v s = .next (raiseError .writeRo s) := by
  cases r with
  | status | dout w | iv w | rk x w => simp [hostWrite, hr, access]
  | _ => cases h

end

/-- Settles O17: the first indices name no register and the others a write-only one, and all either read does is the
error action and the answer 0. -/
theorem refusedReadReturnsZeroAndRaisesItsCause :
    Obligations.RefusedReadReturnsZeroAndRaisesItsCause := by
  refine fun idx s => ⟨fun h => ?_, fun h => ?_⟩
  · exact hostRead_of_unmapped ((regAt_eq_none_iff idx).mpr h) s
  · obtain ⟨r, hr, hwo⟩ := (exists_regAt_access_iff idx .wo).mpr h
    exact hostRead_of_writeOnly hr hwo s

/-- Settles O19: the first indices name no register and the others a read-only one, and all either write does is the
error action. -/
theorem refusedWriteRaisesItsCauseAndNothingElse :
    Obligations.RefusedWriteRaisesItsCauseAndNothingElse := by
  refine fun idx v s => ⟨fun h => ?_, fun h => ?_⟩
  · exact hostWrite_of_unmapped ((regAt_eq_none_iff idx).mpr h) v s
  · obtain ⟨r, hr, hro⟩ := (exists_regAt_access_iff idx .ro).mpr h
    exact hostWrite_of_readOnly hr hro v s

/-! ## The core goes on (60_exceptions.md R208, R213) -/

/-- Settles O9: an idle step changes nothing, and every event completes. -/
theorem everyStepCompletes : Obligations.EveryStepCompletes := fun s => by
  cases hp : s.pending with
  | nil => exact ⟨s, step_of_idle hp⟩
  | cons e rest =>
    rw [step_of_pending hp]
    exact performEvent_completes e (s.setPending rest)

/-- No command's equation has `ERR` or `ERRCODE` among its operands or its results. -/
theorem exec_setErr {i : Instr} {s t : State} (e : Bool) (c : BitVec 4) (h : exec i s = .next t) :
    exec i (s.setErr e c) = .next (t.setErr e c) := by
  cases i <;> obtain rfl := Host.Outcome.next.inj h <;> rfl

/-- Settles O24: a command completes and keeps the error, and any other error before it stands after it. -/
theorem errorFlagBlocksNoCommand : Obligations.ErrorFlagBlocksNoCommand := fun i s e c => by
  obtain ⟨t, h⟩ := exec_completes i s
  obtain ⟨herr, hcode⟩ := exec_keeps_error h
  exact ⟨t, h, herr, hcode, exec_setErr e c h⟩

/-! ## KEY at the port (60_exceptions.md R207, 41_key_schedule.md R135)

Changing KEY before an operation changes at most KEY after it. -/

section
variable (key : Vector Word 8)

/-- `KEY` is write-only, so no register the host may read shows it. -/
theorem readReg_setKey {r : Reg} (h : access r ≠ .wo) (s : State) :
    readReg r (s.setKey key) = readReg r s := by
  cases r with
  | key i => exact absurd rfl h
  | _ => rfl

theorem raiseError_setKey (c : ErrCause) (s : State) :
    raiseError c (s.setKey key) = (raiseError c s).setKey key := rfl

theorem hostRead_setKey (idx : Index) (s : State) :
    hostRead idx (s.setKey key) = (hostRead idx s).setKey key := by
  obtain ⟨r, hr, hread, h⟩ | ⟨r, hr, hwo, h⟩ | ⟨hr, h⟩ := hostRead_cases idx s <;> rw [h]
  · rw [eq_regIndex_of_regAt hr, hostRead_regIndex_of_readable hread, readReg_setKey key hread]
    rfl
  · rw [hostRead_of_writeOnly hr hwo, raiseError_setKey]
    rfl
  · rw [hostRead_of_unmapped hr, raiseError_setKey]
    rfl

/-- A write to `KEY[i]` replaces that word in either key; a write elsewhere keeps both keys. -/
theorem exists_writeReg_setKey (r : Reg) (v : Word) (s : State) :
    ∃ key', writeReg r v (s.setKey key) = (writeReg r v s).setKey key' := by
  cases r with
  | key i => exact ⟨key.set i v, rfl⟩
  | _ => exact ⟨key, rfl⟩

variable {s t : State}

/-- No command but KEYSETUP has `KEY` among its operands or its results. -/
theorem exec_setKey {i : Instr} (hi : i ≠ .keysetup) (h : exec i s = .next t) :
    exec i (s.setKey key) = .next (t.setKey key) := by
  cases i with
  | keysetup => exact absurd rfl hi
  | _ => obtain rfl := Host.Outcome.next.inj h; rfl

theorem perform_setKey {v : Word} (hv : v ≠ encode .keysetup) (h : perform v s = .next t) :
    perform v (s.setKey key) = .next (t.setKey key) := by
  unfold perform at h ⊢
  cases hd : decode v with
  | ok i =>
    have hi : i ≠ .keysetup := fun hi => hv (hi ▸ eq_encode_of_decode hd)
    rw [hd] at h
    exact exec_setKey key hi h
  | error e =>
    rw [hd] at h
    cases h
    rfl

theorem exists_hostWrite_setKey {idx : Index} {v : Word}
    (hv : idx = 0x00 → v ≠ encode .keysetup) (h : hostWrite idx v s = .next t) :
    ∃ key', hostWrite idx v (s.setKey key) = .next (t.setKey key') := by
  obtain ⟨hr, hw⟩ | ⟨r, hr, hcmd, hwritable, hw⟩ | ⟨r, hr, hro, hw⟩ | ⟨hr, hw⟩ :=
    hostWrite_cases idx v s <;> rw [hw] at h
  · obtain rfl : idx = 0x00 := eq_regIndex_of_regAt hr
    exact ⟨key, perform_setKey key (hv rfl) h⟩
  · cases h
    obtain ⟨key', hkey⟩ := exists_writeReg_setKey key r v s
    rw [eq_regIndex_of_regAt hr, hostWrite_regIndex_of_writable hcmd hwritable, hkey]
    exact ⟨key', rfl⟩
  · cases h
    exact ⟨key, hostWrite_of_readOnly hr hro v _⟩
  · cases h
    exact ⟨key, hostWrite_of_unmapped hr v _⟩

theorem exists_performEvent_setKey {e : PortEvent} (he : e ≠ .write 0x00 (encode .keysetup))
    (h : performEvent e s = .next t) :
    ∃ key', performEvent e (s.setKey key) = .next (t.setKey key') := by
  cases e with
  | read idx =>
    obtain rfl := Host.Outcome.next.inj h
    exact ⟨key, congrArg _ (hostRead_setKey key idx (s.setResponse none))⟩
  | write idx v =>
    have hv : idx = 0x00 → v ≠ encode .keysetup := by
      rintro rfl rfl
      exact he rfl
    exact exists_hostWrite_setKey key hv h
  | reset =>
    cases h
    exact ⟨State.reset.key, rfl⟩

end

/-- Settles O59, by induction on the events: each of them leaves the two states differing in KEY at most. -/
theorem keyIsNotRevealedByThePort : Obligations.KeyIsNotRevealedByThePort := by
  intro es s key hes
  induction es generalizing s key with
  | nil => exact ⟨s, key, rfl, rfl⟩
  | cons e es ih =>
    obtain ⟨he, hrest⟩ := List.forall_mem_cons.mp hes
    obtain ⟨t, ht⟩ := performEvent_completes e s
    obtain ⟨key', ht'⟩ := exists_performEvent_setKey key he ht
    rw [performAll_cons ht, performAll_cons (s := { s with key := key }) ht']
    exact ih t key' hrest

end Sys2Proof.Machine

/-! PROOFS. 70_reset_and_hazards.md: the state after reset and the reset event, settling O10, O11 and O13. -/

namespace Sys2Proof.Machine

/-! ## The state after reset (70_reset_and_hazards.md R231) -/

theorem rk_reset (r : Fin 24) : State.reset.rk[r] = Quad.zero :=
  Vector.getElem_replicate r.isLt

theorem key_reset (i : Fin 8) : State.reset.key[i] = 0 :=
  Vector.getElem_replicate i.isLt

theorem statusWord_reset : statusWord State.reset = 0 := by decide

/-- Settles O10: the two register files entry by entry and `STATUS` by evaluation; the others are fields as given. -/
theorem resetLeavesTheListedValues : Obligations.ResetLeavesTheListedValues :=
  ⟨rk_reset, rfl, rfl, rfl, rfl, key_reset, rfl, rfl, rfl, rfl, rfl, rfl, statusWord_reset⟩

/-- Settles O13. -/
theorem resetMeetsTheStateInvariant : Obligations.ResetMeetsTheStateInvariant := State.inv_reset

/-! ## The reset event (70_reset_and_hazards.md R230, R232) -/

/-- Of the state before it, a reset event keeps the waiting events alone. -/
theorem performEvent_reset (s : State) :
    performEvent .reset s = .next (State.reset.setPending s.pending) := rfl

/-- Settles O11: the step performs the reset event with the rest left waiting. -/
theorem resetEventForgetsEverything : Obligations.ResetEventForgetsEverything := by
  intro s rest hp
  rw [step_of_pending hp, performEvent_reset, State.setPending_pending, State.setPending]

end Sys2Proof.Machine
